-- ==== Sys2Proof/Word.lean ====
section
/-! DEFINITION. The widths the spec gives its values, the records that arrive at the core's ports, and
the words the decoder reads. spec/00_scope.md R7, R8; spec/10_state.md R22, R27; spec/30_encoding.md R51, R53. -/

namespace Sys2Proof

/-- A wire byte or a row of the matrix: 8 bits (R10, R22). -/
abbrev Byte := BitVec 8

/-- A matrix address `a = row ++ col` (R29, R30). -/
abbrev MatrixAddr := BitVec 8

/-- A row operand, port `cmd_row` (R38). -/
abbrev RowIdx := BitVec 5

/-- A column operand, port `cmd_col` (R38). -/
abbrev ColIdx := BitVec 3

/-- The external tick, `TICK_W` = 16 bits (R8). -/
abbrev Tick := BitVec 16

/-- A raw analog sample, 0 to 1023 (R22). -/
abbrev Sample := BitVec 10

/-- The input record `in` that one ADVANCE samples (R22). -/
structure AdvIn where
  rxValid : Bool
  rxError : Bool
  rxByte  : Byte
  btnN    : BitVec 2
  adcX    : Sample
  adcY    : Sample
  tick    : Tick
  hostLed : Byte
deriving DecidableEq, Repr

/-- Every input port at 0: what a word that uses no input record carries. -/
def AdvIn.zero : AdvIn := ⟨false, false, 0, 0, 0, 0, 0, 0⟩

/-- The input ports at one clock edge (R21, R27), `clk` apart. -/
structure PortIn where
  rst      : Bool
  cmdValid : Bool
  cmd      : BitVec 3
  cmdRow   : RowIdx
  cmdCol   : ColIdx
  adv      : AdvIn
deriving DecidableEq, Repr

/-- The operand bits of a MICRO row, at the width of its `encoding` string in opcode_table.json. These rows
carry no selecting bits (R51), so the row is named by the constructor. `led` is `in.host_led`, which the
self-test transitions read (R74, R75). -/
inductive MicroWord where
  | makeKey     (w : BitVec 8)
  | breakKey    (w : BitVec 8)
  | pseudoBreak (w : BitVec 8)
  | receive     (w : BitVec 10) (led : Byte)
  | decodeByte  (w : BitVec 8) (led : Byte)
  | debounce    (w : BitVec 18)
  | mapAxis     (w : BitVec 10)
  | thumbstick  (w : BitVec 20)
deriving DecidableEq, Repr

/-- What the decoder reads: a WIRE word `ds ++ b` of 12 bits, a CMD word with its operand ports, a MICRO
word, or bits that fit no format of opcode_table.json. -/
inductive Word where
  | wire        (w : BitVec 12) (led : Byte)
  | cmd         (code : BitVec 3) (row : RowIdx) (col : ColIdx) (adv : AdvIn)
  | micro       (m : MicroWord)
  | unformatted (nbits w : Nat)
deriving DecidableEq, Repr

/-- One item of the stimulus the environment holds ready (log 1): a clock edge with the values of the ports;
or, at the level of one component (log 2), a byte handed to the decoder, a micro-operation, or bits of no
format. -/
inductive Request where
  | edge        (p : PortIn)
  | wire        (b led : Byte)
  | micro       (m : MicroWord)
  | unformatted (nbits w : Nat)
deriving DecidableEq, Repr

end Sys2Proof
end

