-- ==== Sys2Proof/Config.lean ====
section
/-! DEFINITION. The parameters of an instance: `DEBOUNCE`, `MAX_SPEED`, `BTN_ADDR` (spec/00_scope.md R8,
spec/20_memory.md R36, spec/45_thumbstick.md R121). -/

namespace Sys2Proof

/-- The parameters of R8, in types that hold exactly the legal values (log 4):
`DEBOUNCE` is 0 to 65534; `MAX_SPEED` is 5 plus an offset below 75, so 5 to 79; `BTN_ADDR` is (0x92, 0xD9)
or its swap, the only pairs that meet R36. -/
structure Params where
  debounce       : Fin 65535
  maxSpeedOver5  : Fin 75
  buttonsSwapped : Bool
deriving DecidableEq, Repr

/-- `MAX_SPEED`. -/
def Params.maxSpeed (p : Params) : Nat := 5 + p.maxSpeedOver5.val

/-- The addresses some decoder transition or the pseudo-break can make or break: every one but 0x92 and
0xD9 (R34). -/
def decoderTouches (a : MatrixAddr) : Bool := a != 0x92 && a != 0xD9

/-- A configuration from plain values, refused (`none`) outside the ranges of R8 and R36 (D34). -/
def Params.ofValues? (debounce maxSpeed : Nat) (btn0 btn1 : MatrixAddr) : Option Params :=
  if h : debounce < 65535 ∧ 5 ≤ maxSpeed ∧ maxSpeed - 5 < 75 then
    if btn0 != btn1 && btn0 != 0xFE && btn1 != 0xFE && !decoderTouches btn0 && !decoderTouches btn1 then
      some ⟨⟨debounce, h.1⟩, ⟨maxSpeed - 5, h.2.2⟩, btn0 == 0xD9⟩
    else none
  else none

/-- The value `MAX_SPEED` - 5 of the machine at hand: R8 leaves it OPEN, so it has no body (log 5). -/
opaque Config.maxSpeedOver5 : Fin 75

/-- The parameters at their defaults: `DEBOUNCE` = 5, `BTN_ADDR` = (0x92, 0xD9), `MAX_SPEED` open (R8). -/
def Params.default : Params := ⟨5, Config.maxSpeedOver5, false⟩

end Sys2Proof
end

