-- ==== Sys2Proof/Syntax.lean ====
section
/-! DEFINITION. The instructions: one constructor per row of spec/opcode_table.json, and the 14 values of the
decoder state (spec/10_state.md R15). -/

namespace Sys2Proof

/-- The decoder state `ds` (R14, R15): the bytes consumed so far in the current sequence. Codes 14 and 15
cannot be written down (log 9). -/
inductive DecState where
  | init
  | e0
  | f0
  | e0_F0
  | e1
  | e1_14
  | e1_14_77
  | e1_14_77_E1
  | e1_14_77_E1_F0
  | e1_14_77_E1_F0_14
  | e1_14_77_E1_F0_14_F0
  | e0_7E
  | e0_7E_E0
  | e0_7E_E0_F0
deriving DecidableEq, Repr

/-- The instructions. A WIRE row is named after its state and its byte condition and carries the byte only
where the row is a range; INIT.AA and INIT.FC carry `in.host_led` (log 10). -/
inductive Instr where
  /-- INIT.E0, R68: state INIT, byte 0xE0: none, next E0. -/
  | initOnE0
  /-- INIT.F0, R69: state INIT, byte 0xF0: none, next F0. -/
  | initOnF0
  /-- INIT.E1, R70: state INIT, byte 0xE1: none, next E1. -/
  | initOnE1
  /-- INIT.83, R71: state INIT, byte 0x83: make(0x83), next INIT. -/
  | initOn83
  /-- INIT.84, R72: state INIT, byte 0x84: make(0xFC), next INIT. -/
  | initOn84
  /-- INIT.00, R73: state INIT, byte 0x00: raise Overrun, next INIT. -/
  | initOn00
  /-- INIT.AA, R74: state INIT, byte 0xAA: self-test passed, refresh LEDs, next INIT. -/
  | initOnAA (led : Byte)
  /-- INIT.FC, R75: state INIT, byte 0xFC: self-test failed, refresh LEDs, next INIT. -/
  | initOnFC (led : Byte)
  /-- INIT.LOW, R76: state INIT, byte other < 0x80: make(b), next INIT. -/
  | initOnLow (b : Byte)
  /-- INIT.HIGH, R77: state INIT, byte other ≥ 0x80: raise Desync, next INIT. -/
  | initOnHigh (b : Byte)
  /-- E0.12, R78: state E0, byte 0x12: none (swallowed), next INIT. -/
  | e0On12
  /-- E0.59, R79: state E0, byte 0x59: none (swallowed), next INIT. -/
  | e0On59
  /-- E0.7E, R80: state E0, byte 0x7E: none, next E0_7E. -/
  | e0On7E
  /-- E0.F0, R81: state E0, byte 0xF0: none, next E0_F0. -/
  | e0OnF0
  /-- E0.LOW, R82: state E0, byte other < 0x80: make(b OR 0x80), next INIT. -/
  | e0OnLow (b : Byte)
  /-- E0.HIGH, R83: state E0, byte other ≥ 0x80: raise Desync, next INIT. -/
  | e0OnHigh (b : Byte)
  /-- F0.83, R84: state F0, byte 0x83: break_(0x83), next INIT. -/
  | f0On83
  /-- F0.84, R85: state F0, byte 0x84: break_(0xFC), next INIT. -/
  | f0On84
  /-- F0.F0, R86: state F0, byte 0xF0: raise Desync, next F0. -/
  | f0OnF0
  /-- F0.LOW, R87: state F0, byte other < 0x80: break_(b), next INIT. -/
  | f0OnLow (b : Byte)
  /-- F0.HIGH, R88: state F0, byte other ≥ 0x80: raise Desync, next INIT. -/
  | f0OnHigh (b : Byte)
  /-- E0_F0.12, R89: state E0_F0, byte 0x12: none (swallowed), next INIT. -/
  | e0_F0On12
  /-- E0_F0.59, R90: state E0_F0, byte 0x59: none (swallowed), next INIT. -/
  | e0_F0On59
  /-- E0_F0.LOW, R91: state E0_F0, byte other < 0x80: break_(b OR 0x80), next INIT. -/
  | e0_F0OnLow (b : Byte)
  /-- E0_F0.HIGH, R92: state E0_F0, byte other ≥ 0x80: raise Desync, next INIT. -/
  | e0_F0OnHigh (b : Byte)
  /-- E1.14, R95: state E1, byte 0x14: none, next E1_14. -/
  | e1On14
  /-- E1.OTHER, R96: state E1, byte other: none, next INIT. -/
  | e1OnOther (b : Byte)
  /-- E1_14.77, R97: state E1_14, byte 0x77: none, next E1_14_77. -/
  | e1_14On77
  /-- E1_14.OTHER, R98: state E1_14, byte other: none, next INIT. -/
  | e1_14OnOther (b : Byte)
  /-- E1_14_77.E1, R99: state E1_14_77, byte 0xE1: none, next E1_14_77_E1. -/
  | e1_14_77OnE1
  /-- E1_14_77.OTHER, R100: state E1_14_77, byte other: none, next INIT. -/
  | e1_14_77OnOther (b : Byte)
  /-- E1_14_77_E1.F0, R101: state E1_14_77_E1, byte 0xF0: none, next E1_14_77_E1_F0. -/
  | e1_14_77_E1OnF0
  /-- E1_14_77_E1.OTHER, R102: state E1_14_77_E1, byte other: none, next INIT. -/
  | e1_14_77_E1OnOther (b : Byte)
  /-- E1_14_77_E1_F0.14, R103: state E1_14_77_E1_F0, byte 0x14: none, next E1_14_77_E1_F0_14. -/
  | e1_14_77_E1_F0On14
  /-- E1_14_77_E1_F0.OTHER, R104: state E1_14_77_E1_F0, byte other: none, next INIT. -/
  | e1_14_77_E1_F0OnOther (b : Byte)
  /-- E1_14_77_E1_F0_14.F0, R105: state E1_14_77_E1_F0_14, byte 0xF0: none, next E1_14_77_E1_F0_14_F0. -/
  | e1_14_77_E1_F0_14OnF0
  /-- E1_14_77_E1_F0_14.OTHER, R106: state E1_14_77_E1_F0_14, byte other: none, next INIT. -/
  | e1_14_77_E1_F0_14OnOther (b : Byte)
  /-- E1_14_77_E1_F0_14_F0.77, R107: state E1_14_77_E1_F0_14_F0, byte 0x77: make(0xFE), next INIT. -/
  | e1_14_77_E1_F0_14_F0On77
  /-- E1_14_77_E1_F0_14_F0.OTHER, R108: state E1_14_77_E1_F0_14_F0, byte other: none, next INIT. -/
  | e1_14_77_E1_F0_14_F0OnOther (b : Byte)
  /-- E0_7E.E0, R109: state E0_7E, byte 0xE0: none, next E0_7E_E0. -/
  | e0_7EOnE0
  /-- E0_7E.OTHER, R110: state E0_7E, byte other: none, next INIT. -/
  | e0_7EOnOther (b : Byte)
  /-- E0_7E_E0.F0, R111: state E0_7E_E0, byte 0xF0: none, next E0_7E_E0_F0. -/
  | e0_7E_E0OnF0
  /-- E0_7E_E0.OTHER, R112: state E0_7E_E0, byte other: none, next INIT. -/
  | e0_7E_E0OnOther (b : Byte)
  /-- E0_7E_E0_F0.7E, R113: state E0_7E_E0_F0, byte 0x7E: make(0xFE), next INIT. -/
  | e0_7E_E0_F0On7E
  /-- E0_7E_E0_F0.OTHER, R114: state E0_7E_E0_F0, byte other: none, next INIT. -/
  | e0_7E_E0_F0OnOther (b : Byte)
  /-- NOP, R129: CMD row. -/
  | nop
  /-- ADVANCE, R124: CMD row. -/
  | advance (inp : AdvIn)
  /-- CLEAR, R64: CMD row. -/
  | clear
  /-- IS_ON, R58: CMD row. -/
  | isOn (row : RowIdx) (col : ColIdx)
  /-- GET_ROW, R59: CMD row. -/
  | getRow (row : RowIdx)
  /-- KEY_COUNT, R60: CMD row. -/
  | keyCount
  /-- RESERVED, R54: command codes 6 and 7. -/
  | reserved (code : BitVec 3)
  /-- MAKE, R61: MICRO row. -/
  | makeKey (a : MatrixAddr)
  /-- BREAK, R62: MICRO row. -/
  | breakKey (a : MatrixAddr)
  /-- PSEUDO_BREAK, R125: MICRO row. -/
  | pseudoBreak
  /-- RECEIVE, R126: MICRO row. -/
  | receive (valid : Bool) (error : Bool) (b : Byte) (led : Byte)
  /-- DECODE, R67: MICRO row. -/
  | decodeByte (b : Byte) (led : Byte)
  /-- DEBOUNCE, R116: MICRO row. -/
  | debounce (btnN : BitVec 2) (tick : Tick)
  /-- MAP, R120: MICRO row. -/
  | mapAxis (v : Sample)
  /-- THUMBSTICK, R122: MICRO row. -/
  | thumbstick (vx : Sample) (vy : Sample)
deriving DecidableEq, Repr

/-- Why a word is no instruction. -/
inductive DecodeError where
  /-- Bits that fit no format of opcode_table.json. -/
  | noFormat (nbits w : Nat)
  /-- A PSEUDO_BREAK word other than its fixed pattern 0xFE. -/
  | pseudoBreakPattern (w : BitVec 8)
deriving DecidableEq, Repr

end Sys2Proof
end

