-- ==== Sys2Proof/WellFormed.lean ====
section
/-! DEFINITION. Which terms of Instr stand for an instruction: the byte of a range row is one that reaches it
(spec/30_encoding.md R51: "other" means not matched by an earlier row), and RESERVED carries code 6 or 7 (R53). -/

namespace Sys2Proof

/-- A byte below 0x80: the code range, bit 7 clear (R48). -/
def isCode (b : Byte) : Bool := b.toNat < 0x80

def wellFormed : Instr → Bool
  | .initOnE0 => true
  | .initOnF0 => true
  | .initOnE1 => true
  | .initOn83 => true
  | .initOn84 => true
  | .initOn00 => true
  | .initOnAA _ => true
  | .initOnFC _ => true
  | .initOnLow b => isCode b && b != 0x00
  | .initOnHigh b => !isCode b && b != 0xE0 && b != 0xF0 && b != 0xE1 && b != 0x83 && b != 0x84 && b != 0xAA && b != 0xFC
  | .e0On12 => true
  | .e0On59 => true
  | .e0On7E => true
  | .e0OnF0 => true
  | .e0OnLow b => isCode b && b != 0x12 && b != 0x59 && b != 0x7E
  | .e0OnHigh b => !isCode b && b != 0xF0
  | .f0On83 => true
  | .f0On84 => true
  | .f0OnF0 => true
  | .f0OnLow b => isCode b
  | .f0OnHigh b => !isCode b && b != 0x83 && b != 0x84 && b != 0xF0
  | .e0_F0On12 => true
  | .e0_F0On59 => true
  | .e0_F0OnLow b => isCode b && b != 0x12 && b != 0x59
  | .e0_F0OnHigh b => !isCode b
  | .e1On14 => true
  | .e1OnOther b => b != 0x14
  | .e1_14On77 => true
  | .e1_14OnOther b => b != 0x77
  | .e1_14_77OnE1 => true
  | .e1_14_77OnOther b => b != 0xE1
  | .e1_14_77_E1OnF0 => true
  | .e1_14_77_E1OnOther b => b != 0xF0
  | .e1_14_77_E1_F0On14 => true
  | .e1_14_77_E1_F0OnOther b => b != 0x14
  | .e1_14_77_E1_F0_14OnF0 => true
  | .e1_14_77_E1_F0_14OnOther b => b != 0xF0
  | .e1_14_77_E1_F0_14_F0On77 => true
  | .e1_14_77_E1_F0_14_F0OnOther b => b != 0x77
  | .e0_7EOnE0 => true
  | .e0_7EOnOther b => b != 0xE0
  | .e0_7E_E0OnF0 => true
  | .e0_7E_E0OnOther b => b != 0xF0
  | .e0_7E_E0_F0On7E => true
  | .e0_7E_E0_F0OnOther b => b != 0x7E
  | .nop => true
  | .advance _ => true
  | .clear => true
  | .isOn _ _ => true
  | .getRow _ => true
  | .keyCount => true
  | .reserved c => c == 6 || c == 7
  | .makeKey _ => true
  | .breakKey _ => true
  | .pseudoBreak => true
  | .receive _ _ _ _ => true
  | .decodeByte _ _ => true
  | .debounce _ _ => true
  | .mapAxis _ => true
  | .thumbstick _ _ => true

end Sys2Proof
end

