-- ==== Sys2Proof/Decode.lean ====
section
/-! DEFINITION. The decoder: from the bits of a word to an instruction, total, rejecting by name; the encoder
after it. spec/30_encoding.md R48 to R54; the rows of opcode_table.json. -/

namespace Sys2Proof

/-- The 4-bit code of a decoder state (R15). -/
def DecState.code : DecState → BitVec 4
  | .init => 0
  | .e0 => 1
  | .f0 => 2
  | .e0_F0 => 3
  | .e1 => 4
  | .e1_14 => 5
  | .e1_14_77 => 6
  | .e1_14_77_E1 => 7
  | .e1_14_77_E1_F0 => 8
  | .e1_14_77_E1_F0_14 => 9
  | .e1_14_77_E1_F0_14_F0 => 10
  | .e0_7E => 11
  | .e0_7E_E0 => 12
  | .e0_7E_E0_F0 => 13

/-- The decoder state of a 4-bit code. Codes 14 and 15 are unreachable and read as INIT (R15, log 9). -/
def DecState.ofCode (c : BitVec 4) : DecState :=
  match c.toNat with
  | 1 => .e0
  | 2 => .f0
  | 3 => .e0_F0
  | 4 => .e1
  | 5 => .e1_14
  | 6 => .e1_14_77
  | 7 => .e1_14_77_E1
  | 8 => .e1_14_77_E1_F0
  | 9 => .e1_14_77_E1_F0_14
  | 10 => .e1_14_77_E1_F0_14_F0
  | 11 => .e0_7E
  | 12 => .e0_7E_E0
  | 13 => .e0_7E_E0_F0
  | _ => .init

/-- The transition selected by (`ds`, `b`): exact bytes first, then the range rows, in the order of R52
(R51). -/
def decodeWire (d : DecState) (b led : Byte) : Instr :=
  match d with
  | .init =>
    if b = 0xE0 then .initOnE0
    else if b = 0xF0 then .initOnF0
    else if b = 0xE1 then .initOnE1
    else if b = 0x83 then .initOn83
    else if b = 0x84 then .initOn84
    else if b = 0x00 then .initOn00
    else if b = 0xAA then .initOnAA led
    else if b = 0xFC then .initOnFC led
    else if isCode b then .initOnLow b
    else .initOnHigh b
  | .e0 =>
    if b = 0x12 then .e0On12
    else if b = 0x59 then .e0On59
    else if b = 0x7E then .e0On7E
    else if b = 0xF0 then .e0OnF0
    else if isCode b then .e0OnLow b
    else .e0OnHigh b
  | .f0 =>
    if b = 0x83 then .f0On83
    else if b = 0x84 then .f0On84
    else if b = 0xF0 then .f0OnF0
    else if isCode b then .f0OnLow b
    else .f0OnHigh b
  | .e0_F0 =>
    if b = 0x12 then .e0_F0On12
    else if b = 0x59 then .e0_F0On59
    else if isCode b then .e0_F0OnLow b
    else .e0_F0OnHigh b
  | .e1 =>
    if b = 0x14 then .e1On14
    else .e1OnOther b
  | .e1_14 =>
    if b = 0x77 then .e1_14On77
    else .e1_14OnOther b
  | .e1_14_77 =>
    if b = 0xE1 then .e1_14_77OnE1
    else .e1_14_77OnOther b
  | .e1_14_77_E1 =>
    if b = 0xF0 then .e1_14_77_E1OnF0
    else .e1_14_77_E1OnOther b
  | .e1_14_77_E1_F0 =>
    if b = 0x14 then .e1_14_77_E1_F0On14
    else .e1_14_77_E1_F0OnOther b
  | .e1_14_77_E1_F0_14 =>
    if b = 0xF0 then .e1_14_77_E1_F0_14OnF0
    else .e1_14_77_E1_F0_14OnOther b
  | .e1_14_77_E1_F0_14_F0 =>
    if b = 0x77 then .e1_14_77_E1_F0_14_F0On77
    else .e1_14_77_E1_F0_14_F0OnOther b
  | .e0_7E =>
    if b = 0xE0 then .e0_7EOnE0
    else .e0_7EOnOther b
  | .e0_7E_E0 =>
    if b = 0xF0 then .e0_7E_E0OnF0
    else .e0_7E_E0OnOther b
  | .e0_7E_E0_F0 =>
    if b = 0x7E then .e0_7E_E0_F0On7E
    else .e0_7E_E0_F0OnOther b

/-- The command of a code and its operand ports; ports a command does not name are ignored (R53, R54). -/
def decodeCmd (code : BitVec 3) (row : RowIdx) (col : ColIdx) (adv : AdvIn) : Instr :=
  if code = 0 then .nop
  else if code = 1 then .advance adv
  else if code = 2 then .clear
  else if code = 3 then .isOn row col
  else if code = 4 then .getRow row
  else if code = 5 then .keyCount
  else .reserved code

/-- The micro-operation of an operand word, by the `encoding` strings of the table: RECEIVE is `v e b`,
DEBOUNCE is `n t`, THUMBSTICK is `x y`, each with its first field in the high bits. -/
def decodeMicro : MicroWord → Except DecodeError Instr
  | .makeKey w => .ok (.makeKey w)
  | .breakKey w => .ok (.breakKey w)
  | .pseudoBreak w => if w = 0xFE then .ok .pseudoBreak else .error (.pseudoBreakPattern w)
  | .receive w led => .ok (.receive (w.getLsbD 9) (w.getLsbD 8) (w.extractLsb' 0 8) led)
  | .decodeByte w led => .ok (.decodeByte w led)
  | .debounce w => .ok (.debounce (w.extractLsb' 16 2) (w.extractLsb' 0 16))
  | .mapAxis w => .ok (.mapAxis w)
  | .thumbstick w => .ok (.thumbstick (w.extractLsb' 10 10) (w.extractLsb' 0 10))

/-- The decoder, total on any word. -/
def decode : Word → Except DecodeError Instr
  | .wire w led => .ok (decodeWire (.ofCode (w.extractLsb' 8 4)) (w.extractLsb' 0 8) led)
  | .cmd code row col adv => .ok (decodeCmd code row col adv)
  | .micro m => decodeMicro m
  | .unformatted nbits w => .error (.noFormat nbits w)

/-- The 12-bit word `ds ++ b` (R51). -/
def wireBits (d : DecState) (b : Byte) : BitVec 12 := d.code ++ b

/-- A command word whose operand ports are all 0 but those given. -/
def cmdWord (code : BitVec 3) (row : RowIdx := 0) (col : ColIdx := 0) (adv : AdvIn := AdvIn.zero) : Word :=
  .cmd code row col adv

/-- The word of an instruction, written from the same tables. -/
def encode : Instr → Word
  | .initOnE0 => .wire 0x0E0 0
  | .initOnF0 => .wire 0x0F0 0
  | .initOnE1 => .wire 0x0E1 0
  | .initOn83 => .wire 0x083 0
  | .initOn84 => .wire 0x084 0
  | .initOn00 => .wire 0x000 0
  | .initOnAA led => .wire 0x0AA led
  | .initOnFC led => .wire 0x0FC led
  | .initOnLow b => .wire (wireBits .init b) 0
  | .initOnHigh b => .wire (wireBits .init b) 0
  | .e0On12 => .wire 0x112 0
  | .e0On59 => .wire 0x159 0
  | .e0On7E => .wire 0x17E 0
  | .e0OnF0 => .wire 0x1F0 0
  | .e0OnLow b => .wire (wireBits .e0 b) 0
  | .e0OnHigh b => .wire (wireBits .e0 b) 0
  | .f0On83 => .wire 0x283 0
  | .f0On84 => .wire 0x284 0
  | .f0OnF0 => .wire 0x2F0 0
  | .f0OnLow b => .wire (wireBits .f0 b) 0
  | .f0OnHigh b => .wire (wireBits .f0 b) 0
  | .e0_F0On12 => .wire 0x312 0
  | .e0_F0On59 => .wire 0x359 0
  | .e0_F0OnLow b => .wire (wireBits .e0_F0 b) 0
  | .e0_F0OnHigh b => .wire (wireBits .e0_F0 b) 0
  | .e1On14 => .wire 0x414 0
  | .e1OnOther b => .wire (wireBits .e1 b) 0
  | .e1_14On77 => .wire 0x577 0
  | .e1_14OnOther b => .wire (wireBits .e1_14 b) 0
  | .e1_14_77OnE1 => .wire 0x6E1 0
  | .e1_14_77OnOther b => .wire (wireBits .e1_14_77 b) 0
  | .e1_14_77_E1OnF0 => .wire 0x7F0 0
  | .e1_14_77_E1OnOther b => .wire (wireBits .e1_14_77_E1 b) 0
  | .e1_14_77_E1_F0On14 => .wire 0x814 0
  | .e1_14_77_E1_F0OnOther b => .wire (wireBits .e1_14_77_E1_F0 b) 0
  | .e1_14_77_E1_F0_14OnF0 => .wire 0x9F0 0
  | .e1_14_77_E1_F0_14OnOther b => .wire (wireBits .e1_14_77_E1_F0_14 b) 0
  | .e1_14_77_E1_F0_14_F0On77 => .wire 0xA77 0
  | .e1_14_77_E1_F0_14_F0OnOther b => .wire (wireBits .e1_14_77_E1_F0_14_F0 b) 0
  | .e0_7EOnE0 => .wire 0xBE0 0
  | .e0_7EOnOther b => .wire (wireBits .e0_7E b) 0
  | .e0_7E_E0OnF0 => .wire 0xCF0 0
  | .e0_7E_E0OnOther b => .wire (wireBits .e0_7E_E0 b) 0
  | .e0_7E_E0_F0On7E => .wire 0xD7E 0
  | .e0_7E_E0_F0OnOther b => .wire (wireBits .e0_7E_E0_F0 b) 0
  | .nop => cmdWord 0
  | .advance inp => cmdWord 1 (adv := inp)
  | .clear => cmdWord 2
  | .isOn row col => cmdWord 3 row col
  | .getRow row => cmdWord 4 row
  | .keyCount => cmdWord 5
  | .reserved code => cmdWord code
  | .makeKey a => .micro (.makeKey a)
  | .breakKey a => .micro (.breakKey a)
  | .pseudoBreak => .micro (.pseudoBreak 0xFE)
  | .receive valid error b led => .micro (.receive (BitVec.ofBool valid ++ BitVec.ofBool error ++ b) led)
  | .decodeByte b led => .micro (.decodeByte b led)
  | .debounce btnN tick => .micro (.debounce (btnN ++ tick))
  | .mapAxis v => .micro (.mapAxis v)
  | .thumbstick vx vy => .micro (.thumbstick (vx ++ vy))

/-- The word that the bits `w` of an opcode-table row of `nbits` bits (in whole bytes) are, every operand port
at 0: 16 bits a WIRE word, 8 bits a CMD word or the fixed pattern of PSEUDO_BREAK. The other MICRO rows have
no bits that name them (R51, log 12). -/
def Word.ofTable (nbits w : Nat) : Word :=
  if nbits = 16 ∧ w < 4096 then .wire (BitVec.ofNat 12 w) 0
  else if nbits = 8 ∧ w < 8 then cmdWord (BitVec.ofNat 3 w)
  else if nbits = 8 ∧ w = 0xFE then .micro (.pseudoBreak 0xFE)
  else .unformatted nbits w

/-- The instruction the decoder reads from a table row's bits. -/
def decodeTableWord (nbits w : Nat) : Option Instr := (decode (Word.ofTable nbits w)).toOption

end Sys2Proof
end

