-- ==== Sys2Proof/Machine/State.lean ====
section
/-! DEFINITION. The state of the scanning core and what a step can end in. spec/10_state.md R10 to R28,
spec/60_exceptions.md R130 to R135. -/

namespace Sys2Proof.Machine

/-- The core has no fault: "All error paths are non-fatal to the process", "there is no panic/abort path in
this core" (R130). Nothing raises one. -/
inductive Fault : Type
deriving DecidableEq, Repr

/-- Why a step has no next state. -/
inductive Refusal where
  /-- Raised by exec for an instruction without a meaning. No arm raises it. Safe. -/
  | notModelled (mnemonic : String)
  /-- Raised by step for a request whose bits are no instruction (log 12): the core has no such input, so
  nothing is said of it. Safe. -/
  | undecodable (why : DecodeError)
deriving DecidableEq, Repr

/-- The diagnostic kinds (R135). -/
inductive DiagKind where
  | rx
  | overrun
  | unexpected
  | selftestPass
  | selftestFail
deriving DecidableEq, Repr

/-- An output event (R24); the four numbers of a motion are signed 8-bit values in two's complement (R27). -/
inductive Event where
  | hostClear
  | setLeds (m : Byte)
  | mouseMotion (dx dy wh wv : BitVec 8)
  | mouseFlush
  | diag (k : DiagKind) (b : Byte)
deriving DecidableEq, Repr

/-- The exceptions of R130, each with what its diagnostic carries. -/
inductive CoreException where
  | transportError
  | desync (b : Byte)
  | overrun
  | selfTestFail
deriving DecidableEq, Repr

/-- The result ports and the events of the command just completed (R24, R26, R27). `resMap` is the model's
own: what `map` returns when MAP runs by itself (log 3). -/
structure Outputs where
  rxTake   : Bool
  resBit   : Bool
  resRow   : Byte
  resCount : BitVec 9
  resAlive : Byte
  resMap   : Int
  events   : List Event
deriving DecidableEq, Repr

/-- The outputs when no command completes: 0 (R27), no event. -/
def Outputs.idle : Outputs := ⟨false, false, 0, 0, 0, 0, []⟩

/-- The state. `x` to `tsY` are the spec's 298 bits (R10 to R18); `cfg`, `pending` and `out` are the
parameters, the stimulus still to be sampled and the outputs (log 1, 3, 4). -/
structure State where
  x        : Vector Byte 32
  mod      : Bool
  ds       : DecState
  dbRaw    : BitVec 2
  dbStable : BitVec 2
  dbBusy   : Bool
  dbT0     : Tick
  tsX      : BitVec 8
  tsY      : BitVec 8
  cfg      : Params
  pending  : List Request
  out      : Outputs
deriving DecidableEq, Repr

/-- The machine right after reset (R28, R146), at the default parameters (R8), with nothing pending. -/
def State.reset : State where
  x := Vector.replicate 32 0
  mod := false
  ds := .init
  dbRaw := 0
  dbStable := 0
  dbBusy := false
  dbT0 := 0
  tsX := 0
  tsY := 0
  cfg := Params.default
  pending := []
  out := Outputs.idle

/-- What the core finds at a clock edge: no command, reset, or a word to decode (R21). -/
inductive Fetched where
  | idle
  | resetEdge
  | word (w : Word)
deriving DecidableEq, Repr

/-- How an instruction ends. -/
abbrev Result := Host.Outcome State Fault Refusal

end Sys2Proof.Machine
end

