-- ==== Sys2Proof/Machine/Flags.lean ====
section
/-! DEFINITION. The modification flag `mod` (spec/10_state.md R13) and the count of set positions
(spec/40_matrix_ops.md R60, R66). -/

namespace Sys2Proof.Machine

/-- `mod <- 0`: the start of a scan cycle (R13, R124). -/
def resetMod (s : State) : State := { s with mod := false }

/-- `mod <- 1`: a position changed by `make` or `break_` (R13). -/
def setMod (s : State) : State := { s with mod := true }

/-- The number of set bits of a row, 0 to 8 (R66). -/
def popcount (v : Byte) : Nat :=
  (v.getLsbD 0).toNat + (v.getLsbD 1).toNat + (v.getLsbD 2).toNat + (v.getLsbD 3).toNat
    + (v.getLsbD 4).toNat + (v.getLsbD 5).toNat + (v.getLsbD 6).toNat + (v.getLsbD 7).toNat

/-- The number of set positions of the whole matrix, 0 to 256, with no wrap (R60, R66). -/
def matrixCount (s : State) : Nat := (s.x.toList.map popcount).sum

end Sys2Proof.Machine
end

