-- ==== Sys2Proof/Machine/Operands.lean ====
section
/-! DEFINITION. Operand assembly: how a matrix address is formed and split, and the normalised button sample.
spec/20_memory.md R30 to R36, spec/30_encoding.md R50, spec/44_debouncer.md R115. -/

namespace Sys2Proof.Machine

/-- `row(a) = a[7:3]` (R30). -/
def rowOf (a : MatrixAddr) : RowIdx := a.extractLsb' 3 5

/-- `col(a) = a[2:0]` (R30). -/
def colOf (a : MatrixAddr) : ColIdx := a.extractLsb' 0 3

/-- `a = row ++ col` (R30). -/
def addrOf (row : RowIdx) (col : ColIdx) : MatrixAddr := row ++ col

/-- The address of a non-prefixed code: the byte unchanged (R50). -/
def plainAddr (b : Byte) : MatrixAddr := b

/-- The address of an extended code: `b | 0x80` (R31, R50). -/
def extendedAddr (b : Byte) : MatrixAddr := b ||| 0x80

/-- The F7 address (R32). -/
def f7Addr : MatrixAddr := 0x83

/-- The PrintScreen address (R32). -/
def printScreenAddr : MatrixAddr := 0xFC

/-- The Pause address (R32). -/
def pauseAddr : MatrixAddr := 0xFE

/-- `BTN_ADDR[0]` (R36). -/
def btnAddr0 (p : Params) : MatrixAddr := if p.buttonsSwapped then 0xD9 else 0x92

/-- `BTN_ADDR[1]` (R36). -/
def btnAddr1 (p : Params) : MatrixAddr := if p.buttonsSwapped then 0x92 else 0xD9

/-- The raw button sample, active high, of the active-low pins (R115). -/
def rawButtons (btnN : BitVec 2) : BitVec 2 := ~~~btnN

end Sys2Proof.Machine
end

