-- ==== Sys2Proof/Machine/Ops.lean ====
section
/-! DEFINITION. The operations every instruction is made of: access to the rows, `make`, `break_`, `clear`,
`ds <- S`, `emit`, `raise`. spec/00_scope.md section 6, spec/40_matrix_ops.md, spec/60_exceptions.md. -/

namespace Sys2Proof.Machine

/-- Run `f` on the next state, or stop as `r` stopped. -/
def andThen (r : Result) (f : State → Result) : Result :=
  match r with
  | .next s => f s
  | .fault e => .fault e
  | .refused e => .refused e

/-- `x[r]`, which is `MemRead(r ++ 0b000, 8)`. -/
def readRow (s : State) (r : RowIdx) : Byte := s.x[r.toNat]'(r.isLt)

/-- `x[r] <- v`, which is `MemWrite(r ++ 0b000, 8, v)`. -/
def writeRow (s : State) (r : RowIdx) (v : Byte) : State := { s with x := s.x.set r.toNat v r.isLt }

/-- The bit of weight 2^col (R37). -/
def colMask (c : ColIdx) : Byte := 1#8 <<< c.toNat

/-- `MemRead(a, 1)`: `x[a[7:3]][a[2:0]]` (R30). -/
def readBit (s : State) (a : MatrixAddr) : Bool := (readRow s (rowOf a)).getLsbD (colOf a).toNat

/-- `make(a)` (R61): sets the bit if clear, and flags the transition. -/
def make (a : MatrixAddr) (s : State) : State :=
  if readBit s a then s
  else setMod (writeRow s (rowOf a) (readRow s (rowOf a) ||| colMask (colOf a)))

/-- `break_(a)` (R62): clears the bit if set, and flags the transition. -/
def break_ (a : MatrixAddr) (s : State) : State :=
  if readBit s a then setMod (writeRow s (rowOf a) (readRow s (rowOf a) &&& ~~~colMask (colOf a)))
  else s

/-- `clear()` (R63): every row to 0x00 and nothing else, `mod` included. -/
def clearMatrix (s : State) : State := { s with x := Vector.replicate 32 0 }

/-- `ds <- d`. -/
def setDs (d : DecState) (s : State) : State := { s with ds := d }

/-- `emit e`: append to the event list of the current command (R24). -/
def emit (e : Event) (s : State) : State := { s with out := { s.out with events := s.out.events ++ [e] } }

/-- The code of a diagnostic kind, port `diag_kind` (R135). -/
def diagCode : DiagKind → BitVec 3
  | .rx => 0
  | .overrun => 1
  | .unexpected => 2
  | .selftestPass => 3
  | .selftestFail => 4

/-- The numeric code of an exception: the diagnostic kind it reports; TransportError reports none (R130). -/
def exceptionCode : CoreException → Option (BitVec 3)
  | .transportError => none
  | .desync _ => some (diagCode .unexpected)
  | .overrun => some (diagCode .overrun)
  | .selfTestFail => some (diagCode .selftestFail)

/-- Taking an exception: its recovery procedure (R131 to R134). Nothing is saved and control goes nowhere
(R138); the write of `ds` belongs to the transition that raises (R132). There is no return from one (R139). -/
def raise (e : CoreException) (s : State) : State :=
  match e with
  | .transportError => s
  | .desync b => emit (.diag .unexpected b) (emit .hostClear (clearMatrix s))
  | .overrun => emit (.diag .overrun 0x00) (emit .hostClear (clearMatrix s))
  | .selfTestFail => emit (.diag .selftestFail 0xFC) s

end Sys2Proof.Machine
end

