-- ==== Sys2Proof/Machine/Debouncer.lean ====
section
/-! DEFINITION. The Button Debouncer: spec/44_debouncer.md R115 to R119. -/

namespace Sys2Proof.Machine

/-- `elapsed(now, t0)` = (`now` - `t0`) mod 2^16, unsigned (R117). -/
def elapsed (now t0 : Tick) : Nat := (now - t0).toNat

/-- Change detection: a new raw sample becomes the pending one and (re)starts the timer (R116). -/
def observe (raw : BitVec 2) (tick : Tick) (s : State) : State :=
  if raw ≠ s.dbRaw then { s with dbRaw := raw, dbBusy := true, dbT0 := tick } else s

/-- The interval has run out: more than `DEBOUNCE` ticks since the timer started (R116, R117). -/
def expired (tick : Tick) (s : State) : Bool := s.dbBusy && decide (elapsed tick s.dbT0 > s.cfg.debounce.val)

/-- One bit of a committed sample as a `make` or `break_` call (R116). -/
def inject (on : Bool) (a : MatrixAddr) (s : State) : State := if on then make a s else break_ a s

/-- The commit: the pending sample becomes the stable one, and each bit a call, button 0 first (R116). -/
def commit (s : State) : State :=
  inject (s.dbRaw.getLsbD 1) (btnAddr1 s.cfg)
    (inject (s.dbRaw.getLsbD 0) (btnAddr0 s.cfg) { s with dbStable := s.dbRaw })

/-- Expiry: the timer stops, and a pending sample that differs from the stable one is committed (R116). -/
def settle (tick : Tick) (s : State) : State :=
  if expired tick s then
    if s.dbRaw ≠ s.dbStable then commit { s with dbBusy := false } else { s with dbBusy := false }
  else s

/-- DEBOUNCE, R116: one pass. -/
def execDebounce (btnN : BitVec 2) (tick : Tick) (s : State) : Result :=
  .next (settle tick (observe (rawButtons btnN) tick s))

end Sys2Proof.Machine
end

