-- ==== Sys2Proof/Machine/DecoderInit.lean ====
section
/-! DEFINITION. The ten decoder transitions from INIT: spec/41_decoder_init.md R68 to R77. A meaning is the
transition's own pseudocode; `emit Diag(RX, b)` belongs to the decoder's entry (R67, log 11). -/

namespace Sys2Proof.Machine

/-- INIT.E0, R68: in INIT, byte 0xE0: no action; `ds <- E0`. -/
def execInitOnE0 (s : State) : Result :=
  .next (setDs .e0 s)

/-- INIT.F0, R69: in INIT, byte 0xF0: no action; `ds <- F0`. -/
def execInitOnF0 (s : State) : Result :=
  .next (setDs .f0 s)

/-- INIT.E1, R70: in INIT, byte 0xE1: no action; `ds <- E1`. -/
def execInitOnE1 (s : State) : Result :=
  .next (setDs .e1 s)

/-- INIT.83, R71: in INIT, byte 0x83: make(0x83); `ds <- INIT`. -/
def execInitOn83 (s : State) : Result :=
  .next (setDs .init (make f7Addr s))

/-- INIT.84, R72: in INIT, byte 0x84: make(0xFC); `ds <- INIT`. -/
def execInitOn84 (s : State) : Result :=
  .next (setDs .init (make printScreenAddr s))

/-- INIT.00, R73: in INIT, byte 0x00: raise Overrun; `ds <- INIT`. -/
def execInitOn00 (s : State) : Result :=
  .next (setDs .init (raise .overrun s))

/-- INIT.AA, R74: in INIT, byte 0xAA: self-test passed, refresh LEDs; `ds <- INIT`. -/
def execInitOnAA (led : Byte) (s : State) : Result :=
  .next (setDs .init (emit (.setLeds led) (emit (.diag .selftestPass 0xAA) s)))

/-- INIT.FC, R75: in INIT, byte 0xFC: self-test failed, refresh LEDs; `ds <- INIT`. -/
def execInitOnFC (led : Byte) (s : State) : Result :=
  .next (setDs .init (emit (.setLeds led) (raise .selfTestFail s)))

/-- INIT.LOW, R76: in INIT, byte other < 0x80: make(b); `ds <- INIT`. -/
def execInitOnLow (b : Byte) (s : State) : Result :=
  .next (setDs .init (make (plainAddr b) s))

/-- INIT.HIGH, R77: in INIT, byte other ≥ 0x80: raise Desync; `ds <- INIT`. -/
def execInitOnHigh (b : Byte) (s : State) : Result :=
  .next (setDs .init (raise (.desync b) s))

end Sys2Proof.Machine
end

