-- ==== Sys2Proof/Machine/DecoderPause.lean ====
section
/-! DEFINITION. The twenty decoder transitions of the two Pause chains: spec/43_decoder_pause.md R94 to R114.
A meaning is the
transition's own pseudocode; `emit Diag(RX, b)` belongs to the decoder's entry (R67, log 11). -/

namespace Sys2Proof.Machine

/-- E1.14, R95: in E1, byte 0x14: no action; `ds <- E1_14`. -/
def execE1On14 (s : State) : Result :=
  .next (setDs .e1_14 s)

/-- E1.OTHER, R96: in E1, byte other: no action; `ds <- INIT`. -/
def execE1OnOther (_b : Byte) (s : State) : Result :=
  .next (setDs .init s)

/-- E1_14.77, R97: in E1_14, byte 0x77: no action; `ds <- E1_14_77`. -/
def execE1_14On77 (s : State) : Result :=
  .next (setDs .e1_14_77 s)

/-- E1_14.OTHER, R98: in E1_14, byte other: no action; `ds <- INIT`. -/
def execE1_14OnOther (_b : Byte) (s : State) : Result :=
  .next (setDs .init s)

/-- E1_14_77.E1, R99: in E1_14_77, byte 0xE1: no action; `ds <- E1_14_77_E1`. -/
def execE1_14_77OnE1 (s : State) : Result :=
  .next (setDs .e1_14_77_E1 s)

/-- E1_14_77.OTHER, R100: in E1_14_77, byte other: no action; `ds <- INIT`. -/
def execE1_14_77OnOther (_b : Byte) (s : State) : Result :=
  .next (setDs .init s)

/-- E1_14_77_E1.F0, R101: in E1_14_77_E1, byte 0xF0: no action; `ds <- E1_14_77_E1_F0`. -/
def execE1_14_77_E1OnF0 (s : State) : Result :=
  .next (setDs .e1_14_77_E1_F0 s)

/-- E1_14_77_E1.OTHER, R102: in E1_14_77_E1, byte other: no action; `ds <- INIT`. -/
def execE1_14_77_E1OnOther (_b : Byte) (s : State) : Result :=
  .next (setDs .init s)

/-- E1_14_77_E1_F0.14, R103: in E1_14_77_E1_F0, byte 0x14: no action; `ds <- E1_14_77_E1_F0_14`. -/
def execE1_14_77_E1_F0On14 (s : State) : Result :=
  .next (setDs .e1_14_77_E1_F0_14 s)

/-- E1_14_77_E1_F0.OTHER, R104: in E1_14_77_E1_F0, byte other: no action; `ds <- INIT`. -/
def execE1_14_77_E1_F0OnOther (_b : Byte) (s : State) : Result :=
  .next (setDs .init s)

/-- E1_14_77_E1_F0_14.F0, R105: in E1_14_77_E1_F0_14, byte 0xF0: no action; `ds <- E1_14_77_E1_F0_14_F0`. -/
def execE1_14_77_E1_F0_14OnF0 (s : State) : Result :=
  .next (setDs .e1_14_77_E1_F0_14_F0 s)

/-- E1_14_77_E1_F0_14.OTHER, R106: in E1_14_77_E1_F0_14, byte other: no action; `ds <- INIT`. -/
def execE1_14_77_E1_F0_14OnOther (_b : Byte) (s : State) : Result :=
  .next (setDs .init s)

/-- E1_14_77_E1_F0_14_F0.77, R107: in E1_14_77_E1_F0_14_F0, byte 0x77: make(0xFE); `ds <- INIT`. -/
def execE1_14_77_E1_F0_14_F0On77 (s : State) : Result :=
  .next (setDs .init (make pauseAddr s))

/-- E1_14_77_E1_F0_14_F0.OTHER, R108: in E1_14_77_E1_F0_14_F0, byte other: no action; `ds <- INIT`. -/
def execE1_14_77_E1_F0_14_F0OnOther (_b : Byte) (s : State) : Result :=
  .next (setDs .init s)

/-- E0_7E.E0, R109: in E0_7E, byte 0xE0: no action; `ds <- E0_7E_E0`. -/
def execE0_7EOnE0 (s : State) : Result :=
  .next (setDs .e0_7E_E0 s)

/-- E0_7E.OTHER, R110: in E0_7E, byte other: no action; `ds <- INIT`. -/
def execE0_7EOnOther (_b : Byte) (s : State) : Result :=
  .next (setDs .init s)

/-- E0_7E_E0.F0, R111: in E0_7E_E0, byte 0xF0: no action; `ds <- E0_7E_E0_F0`. -/
def execE0_7E_E0OnF0 (s : State) : Result :=
  .next (setDs .e0_7E_E0_F0 s)

/-- E0_7E_E0.OTHER, R112: in E0_7E_E0, byte other: no action; `ds <- INIT`. -/
def execE0_7E_E0OnOther (_b : Byte) (s : State) : Result :=
  .next (setDs .init s)

/-- E0_7E_E0_F0.7E, R113: in E0_7E_E0_F0, byte 0x7E: make(0xFE); `ds <- INIT`. -/
def execE0_7E_E0_F0On7E (s : State) : Result :=
  .next (setDs .init (make pauseAddr s))

/-- E0_7E_E0_F0.OTHER, R114: in E0_7E_E0_F0, byte other: no action; `ds <- INIT`. -/
def execE0_7E_E0_F0OnOther (_b : Byte) (s : State) : Result :=
  .next (setDs .init s)

end Sys2Proof.Machine
end

