-- ==== Sys2Proof/Machine/DecoderPrefix.lean ====
section
/-! DEFINITION. The fifteen decoder transitions from E0, F0 and E0_F0: spec/42_decoder_prefix.md R78 to R92.
A meaning is the
transition's own pseudocode; `emit Diag(RX, b)` belongs to the decoder's entry (R67, log 11). -/

namespace Sys2Proof.Machine

/-- E0.12, R78: in E0, byte 0x12: swallowed; `ds <- INIT`. -/
def execE0On12 (s : State) : Result :=
  .next (setDs .init s)

/-- E0.59, R79: in E0, byte 0x59: swallowed; `ds <- INIT`. -/
def execE0On59 (s : State) : Result :=
  .next (setDs .init s)

/-- E0.7E, R80: in E0, byte 0x7E: no action; `ds <- E0_7E`. -/
def execE0On7E (s : State) : Result :=
  .next (setDs .e0_7E s)

/-- E0.F0, R81: in E0, byte 0xF0: no action; `ds <- E0_F0`. -/
def execE0OnF0 (s : State) : Result :=
  .next (setDs .e0_F0 s)

/-- E0.LOW, R82: in E0, byte other < 0x80: make(b OR 0x80); `ds <- INIT`. -/
def execE0OnLow (b : Byte) (s : State) : Result :=
  .next (setDs .init (make (extendedAddr b) s))

/-- E0.HIGH, R83: in E0, byte other ≥ 0x80: raise Desync; `ds <- INIT`. -/
def execE0OnHigh (b : Byte) (s : State) : Result :=
  .next (setDs .init (raise (.desync b) s))

/-- F0.83, R84: in F0, byte 0x83: break_(0x83); `ds <- INIT`. -/
def execF0On83 (s : State) : Result :=
  .next (setDs .init (break_ f7Addr s))

/-- F0.84, R85: in F0, byte 0x84: break_(0xFC); `ds <- INIT`. -/
def execF0On84 (s : State) : Result :=
  .next (setDs .init (break_ printScreenAddr s))

/-- F0.F0, R86: in F0, byte 0xF0: raise Desync; `ds <- F0`. -/
def execF0OnF0 (s : State) : Result :=
  .next (setDs .f0 (raise (.desync 0xF0) s))

/-- F0.LOW, R87: in F0, byte other < 0x80: break_(b); `ds <- INIT`. -/
def execF0OnLow (b : Byte) (s : State) : Result :=
  .next (setDs .init (break_ (plainAddr b) s))

/-- F0.HIGH, R88: in F0, byte other ≥ 0x80: raise Desync; `ds <- INIT`. -/
def execF0OnHigh (b : Byte) (s : State) : Result :=
  .next (setDs .init (raise (.desync b) s))

/-- E0_F0.12, R89: in E0_F0, byte 0x12: swallowed; `ds <- INIT`. -/
def execE0_F0On12 (s : State) : Result :=
  .next (setDs .init s)

/-- E0_F0.59, R90: in E0_F0, byte 0x59: swallowed; `ds <- INIT`. -/
def execE0_F0On59 (s : State) : Result :=
  .next (setDs .init s)

/-- E0_F0.LOW, R91: in E0_F0, byte other < 0x80: break_(b OR 0x80); `ds <- INIT`. -/
def execE0_F0OnLow (b : Byte) (s : State) : Result :=
  .next (setDs .init (break_ (extendedAddr b) s))

/-- E0_F0.HIGH, R92: in E0_F0, byte other ≥ 0x80: raise Desync; `ds <- INIT`. -/
def execE0_F0OnHigh (b : Byte) (s : State) : Result :=
  .next (setDs .init (raise (.desync b) s))

end Sys2Proof.Machine
end

