-- ==== Sys2Proof/Machine/Thumbstick.lean ====
section
/-! DEFINITION. The Thumbstick Mapper: spec/45_thumbstick.md R120 to R123. -/

namespace Sys2Proof.Machine

/-- `CENTER`, exactly 512 (R8, R120). -/
def center : Int := 512

/-- The slop threshold of the deadzone (R7, R120). -/
def slop : Nat := 64

/-- The scaling divisor (R7, R120). -/
def scaleDivisor : Nat := 320

/-- `map(v)` (R120), on mathematical integers: the product first, the division rounding down on the magnitude,
the sign last. -/
def mapSample (p : Params) (v : Sample) : Int :=
  let d : Int := (v.toNat : Int) - center
  let m : Nat := d.natAbs
  if m < slop then 0
  else
    let q : Nat := p.maxSpeed * m / scaleDivisor
    if d < 0 then -(q : Int) else (q : Int)

/-- A mapped value in a signed 8-bit register or port; it fits (R121). -/
def signed8 (v : Int) : BitVec 8 := BitVec.ofInt 8 v

/-- The report of a pass, if there is one (R122): a value changed, or an axis is off-centre. The vertical
axis is inverted here and nowhere else. -/
def report (mx my : Int) (s : State) : State :=
  if mx ≠ s.tsX.toInt ∨ my ≠ s.tsY.toInt ∨ mx ≠ 0 ∨ my ≠ 0 then
    emit .mouseFlush (emit (.mouseMotion (signed8 mx) (signed8 (-my)) 0 0) s)
  else s

/-- The pass (R122): report, then store the mapped values before inversion. -/
def thumbstickPass (mx my : Int) (s : State) : State :=
  { report mx my s with tsX := signed8 mx, tsY := signed8 my }

/-- MAP, R120: the function by itself; its result goes to the model's own port `resMap` (log 3). -/
def execMapAxis (v : Sample) (s : State) : Result :=
  .next { s with out := { s.out with resMap := mapSample s.cfg v } }

/-- THUMBSTICK, R122. -/
def execThumbstick (vx vy : Sample) (s : State) : Result :=
  .next (thumbstickPass (mapSample s.cfg vx) (mapSample s.cfg vy) s)

end Sys2Proof.Machine
end

