-- ==== Sys2Proof/Machine/Driver.lean ====
section
/-! DEFINITION. The decoder's entry and the driver loop: spec/41_decoder_init.md R67, spec/46_driver_loop.md
R124 to R129, and the reserved commands of spec/30_encoding.md R54. -/

namespace Sys2Proof.Machine

/-- The pseudocode of a selected transition (R67). Only WIRE rows are ever selected; any other instruction is no
transition and does nothing here. -/
def performRow (i : Instr) (s : State) : Result :=
  match i with
  | .initOnE0 => execInitOnE0 s
  | .initOnF0 => execInitOnF0 s
  | .initOnE1 => execInitOnE1 s
  | .initOn83 => execInitOn83 s
  | .initOn84 => execInitOn84 s
  | .initOn00 => execInitOn00 s
  | .initOnAA led => execInitOnAA led s
  | .initOnFC led => execInitOnFC led s
  | .initOnLow b => execInitOnLow b s
  | .initOnHigh b => execInitOnHigh b s
  | .e0On12 => execE0On12 s
  | .e0On59 => execE0On59 s
  | .e0On7E => execE0On7E s
  | .e0OnF0 => execE0OnF0 s
  | .e0OnLow b => execE0OnLow b s
  | .e0OnHigh b => execE0OnHigh b s
  | .f0On83 => execF0On83 s
  | .f0On84 => execF0On84 s
  | .f0OnF0 => execF0OnF0 s
  | .f0OnLow b => execF0OnLow b s
  | .f0OnHigh b => execF0OnHigh b s
  | .e0_F0On12 => execE0_F0On12 s
  | .e0_F0On59 => execE0_F0On59 s
  | .e0_F0OnLow b => execE0_F0OnLow b s
  | .e0_F0OnHigh b => execE0_F0OnHigh b s
  | .e1On14 => execE1On14 s
  | .e1OnOther b => execE1OnOther b s
  | .e1_14On77 => execE1_14On77 s
  | .e1_14OnOther b => execE1_14OnOther b s
  | .e1_14_77OnE1 => execE1_14_77OnE1 s
  | .e1_14_77OnOther b => execE1_14_77OnOther b s
  | .e1_14_77_E1OnF0 => execE1_14_77_E1OnF0 s
  | .e1_14_77_E1OnOther b => execE1_14_77_E1OnOther b s
  | .e1_14_77_E1_F0On14 => execE1_14_77_E1_F0On14 s
  | .e1_14_77_E1_F0OnOther b => execE1_14_77_E1_F0OnOther b s
  | .e1_14_77_E1_F0_14OnF0 => execE1_14_77_E1_F0_14OnF0 s
  | .e1_14_77_E1_F0_14OnOther b => execE1_14_77_E1_F0_14OnOther b s
  | .e1_14_77_E1_F0_14_F0On77 => execE1_14_77_E1_F0_14_F0On77 s
  | .e1_14_77_E1_F0_14_F0OnOther b => execE1_14_77_E1_F0_14_F0OnOther b s
  | .e0_7EOnE0 => execE0_7EOnE0 s
  | .e0_7EOnOther b => execE0_7EOnOther b s
  | .e0_7E_E0OnF0 => execE0_7E_E0OnF0 s
  | .e0_7E_E0OnOther b => execE0_7E_E0OnOther b s
  | .e0_7E_E0_F0On7E => execE0_7E_E0_F0On7E s
  | .e0_7E_E0_F0OnOther b => execE0_7E_E0_F0OnOther b s
  | .nop => .next s
  | .advance _ => .next s
  | .clear => .next s
  | .isOn _ _ => .next s
  | .getRow _ => .next s
  | .keyCount => .next s
  | .reserved _ => .next s
  | .makeKey _ => .next s
  | .breakKey _ => .next s
  | .pseudoBreak => .next s
  | .receive _ _ _ _ => .next s
  | .decodeByte _ _ => .next s
  | .debounce _ _ => .next s
  | .mapAxis _ => .next s
  | .thumbstick _ _ => .next s

/-- DECODE, R67: log the byte, select the transition for (`ds`, `b`), perform it. -/
def execDecodeByte (b led : Byte) (s : State) : Result :=
  performRow (decodeWire s.ds b led) (emit (.diag .rx b) s)

/-- PSEUDO_BREAK, R125: release Pause if it is set. -/
def execPseudoBreak (s : State) : Result :=
  .next (if readBit s pauseAddr then break_ pauseAddr s else s)

/-- RECEIVE, R126: the byte, if any, is taken; a validated one is decoded, a flagged one is a TransportError. -/
def execReceive (valid error : Bool) (b led : Byte) (s : State) : Result :=
  let taken : State := { s with out := { s.out with rxTake := valid } }
  if valid then
    if error then .next (raise .transportError taken) else execDecodeByte b led taken
  else .next taken

/-- The liveness code (R127). -/
def livenessCode : Byte := 0x01

/-- The last statement of ADVANCE: `res_alive <- 0x01` (R124, R127). -/
def answerAlive (s : State) : Result := .next { s with out := { s.out with resAlive := livenessCode } }

/-- ADVANCE, R124: the flag reset, then the four phases in order, then the liveness code. -/
def execAdvance (inp : AdvIn) (s : State) : Result :=
  andThen (execPseudoBreak (resetMod s)) fun s1 =>
  andThen (execReceive inp.rxValid inp.rxError inp.rxByte inp.hostLed s1) fun s2 =>
  andThen (execDebounce inp.btnN inp.tick s2) fun s3 =>
  andThen (execThumbstick inp.adcX inp.adcY s3) answerAlive

/-- NOP, R129: no statement. -/
def execNop (s : State) : Result := .next s

/-- RESERVED, R54: command codes 6 and 7 change no state and emit no event (log 8). -/
def execReserved (_code : BitVec 3) (s : State) : Result := .next s

end Sys2Proof.Machine
end

