-- ==== Sys2Proof/Machine/Matrix.lean ====
section
/-! DEFINITION. The commands and micro-operations of the Key Matrix: spec/40_matrix_ops.md R58 to R66. -/

namespace Sys2Proof.Machine

/-- IS_ON, R58: `res_bit <- x[row][col]`. -/
def execIsOn (row : RowIdx) (col : ColIdx) (s : State) : Result :=
  .next { s with out := { s.out with resBit := readBit s (addrOf row col) } }

/-- GET_ROW, R59: `res_row <- x[row]`. -/
def execGetRow (row : RowIdx) (s : State) : Result :=
  .next { s with out := { s.out with resRow := readRow s row } }

/-- KEY_COUNT, R60: the population count of all rows, on 9 bits. -/
def execKeyCount (s : State) : Result :=
  .next { s with out := { s.out with resCount := BitVec.ofNat 9 (matrixCount s) } }

/-- CLEAR, R64: `clear()` and nothing else. -/
def execClear (s : State) : Result := .next (clearMatrix s)

/-- MAKE, R61. -/
def execMakeKey (a : MatrixAddr) (s : State) : Result := .next (make a s)

/-- BREAK, R62. -/
def execBreakKey (a : MatrixAddr) (s : State) : Result := .next (break_ a s)

end Sys2Proof.Machine
end

