-- ==== Sys2Proof/Machine/Dispatch.lean ====
section
/-! DEFINITION. One arm per instruction: which meaning it has. -/

namespace Sys2Proof.Machine

def exec (i : Instr) (s : State) : Host.Outcome State Fault Refusal :=
  match i with
  | .initOnE0 => Sys2Proof.Machine.execInitOnE0 s
  | .initOnF0 => Sys2Proof.Machine.execInitOnF0 s
  | .initOnE1 => Sys2Proof.Machine.execInitOnE1 s
  | .initOn83 => Sys2Proof.Machine.execInitOn83 s
  | .initOn84 => Sys2Proof.Machine.execInitOn84 s
  | .initOn00 => Sys2Proof.Machine.execInitOn00 s
  | .initOnAA led => Sys2Proof.Machine.execInitOnAA led s
  | .initOnFC led => Sys2Proof.Machine.execInitOnFC led s
  | .initOnLow b => Sys2Proof.Machine.execInitOnLow b s
  | .initOnHigh b => Sys2Proof.Machine.execInitOnHigh b s
  | .e0On12 => Sys2Proof.Machine.execE0On12 s
  | .e0On59 => Sys2Proof.Machine.execE0On59 s
  | .e0On7E => Sys2Proof.Machine.execE0On7E s
  | .e0OnF0 => Sys2Proof.Machine.execE0OnF0 s
  | .e0OnLow b => Sys2Proof.Machine.execE0OnLow b s
  | .e0OnHigh b => Sys2Proof.Machine.execE0OnHigh b s
  | .f0On83 => Sys2Proof.Machine.execF0On83 s
  | .f0On84 => Sys2Proof.Machine.execF0On84 s
  | .f0OnF0 => Sys2Proof.Machine.execF0OnF0 s
  | .f0OnLow b => Sys2Proof.Machine.execF0OnLow b s
  | .f0OnHigh b => Sys2Proof.Machine.execF0OnHigh b s
  | .e0_F0On12 => Sys2Proof.Machine.execE0_F0On12 s
  | .e0_F0On59 => Sys2Proof.Machine.execE0_F0On59 s
  | .e0_F0OnLow b => Sys2Proof.Machine.execE0_F0OnLow b s
  | .e0_F0OnHigh b => Sys2Proof.Machine.execE0_F0OnHigh b s
  | .e1On14 => Sys2Proof.Machine.execE1On14 s
  | .e1OnOther b => Sys2Proof.Machine.execE1OnOther b s
  | .e1_14On77 => Sys2Proof.Machine.execE1_14On77 s
  | .e1_14OnOther b => Sys2Proof.Machine.execE1_14OnOther b s
  | .e1_14_77OnE1 => Sys2Proof.Machine.execE1_14_77OnE1 s
  | .e1_14_77OnOther b => Sys2Proof.Machine.execE1_14_77OnOther b s
  | .e1_14_77_E1OnF0 => Sys2Proof.Machine.execE1_14_77_E1OnF0 s
  | .e1_14_77_E1OnOther b => Sys2Proof.Machine.execE1_14_77_E1OnOther b s
  | .e1_14_77_E1_F0On14 => Sys2Proof.Machine.execE1_14_77_E1_F0On14 s
  | .e1_14_77_E1_F0OnOther b => Sys2Proof.Machine.execE1_14_77_E1_F0OnOther b s
  | .e1_14_77_E1_F0_14OnF0 => Sys2Proof.Machine.execE1_14_77_E1_F0_14OnF0 s
  | .e1_14_77_E1_F0_14OnOther b => Sys2Proof.Machine.execE1_14_77_E1_F0_14OnOther b s
  | .e1_14_77_E1_F0_14_F0On77 => Sys2Proof.Machine.execE1_14_77_E1_F0_14_F0On77 s
  | .e1_14_77_E1_F0_14_F0OnOther b => Sys2Proof.Machine.execE1_14_77_E1_F0_14_F0OnOther b s
  | .e0_7EOnE0 => Sys2Proof.Machine.execE0_7EOnE0 s
  | .e0_7EOnOther b => Sys2Proof.Machine.execE0_7EOnOther b s
  | .e0_7E_E0OnF0 => Sys2Proof.Machine.execE0_7E_E0OnF0 s
  | .e0_7E_E0OnOther b => Sys2Proof.Machine.execE0_7E_E0OnOther b s
  | .e0_7E_E0_F0On7E => Sys2Proof.Machine.execE0_7E_E0_F0On7E s
  | .e0_7E_E0_F0OnOther b => Sys2Proof.Machine.execE0_7E_E0_F0OnOther b s
  | .nop => Sys2Proof.Machine.execNop s
  | .advance inp => Sys2Proof.Machine.execAdvance inp s
  | .clear => Sys2Proof.Machine.execClear s
  | .isOn row col => Sys2Proof.Machine.execIsOn row col s
  | .getRow row => Sys2Proof.Machine.execGetRow row s
  | .keyCount => Sys2Proof.Machine.execKeyCount s
  | .reserved code => Sys2Proof.Machine.execReserved code s
  | .makeKey a => Sys2Proof.Machine.execMakeKey a s
  | .breakKey a => Sys2Proof.Machine.execBreakKey a s
  | .pseudoBreak => Sys2Proof.Machine.execPseudoBreak s
  | .receive valid error b led => Sys2Proof.Machine.execReceive valid error b led s
  | .decodeByte b led => Sys2Proof.Machine.execDecodeByte b led s
  | .debounce btnN tick => Sys2Proof.Machine.execDebounce btnN tick s
  | .mapAxis v => Sys2Proof.Machine.execMapAxis v s
  | .thumbstick vx vy => Sys2Proof.Machine.execThumbstick vx vy s

end Sys2Proof.Machine
end

