-- ==== Sys2Proof/Machine/Fetch.lean ====
section
/-! DEFINITION. What the core samples at a clock edge, and what sampling leaves: spec/10_state.md R21, R22,
R27; log 1, log 2. -/

namespace Sys2Proof.Machine

/-- What stands at the ports (R21): reset wins over a command, `cmd_valid` = 0 is no command. For a byte
handed to the decoder the word is `ds ++ b` (R51). -/
def fetch (s : State) : Fetched :=
  match s.pending with
  | [] => .idle
  | .edge p :: _ =>
    if p.rst then .resetEdge
    else if p.cmdValid then .word (.cmd p.cmd p.cmdRow p.cmdCol p.adv)
    else .idle
  | .wire b led :: _ => .word (.wire (wireBits s.ds b) led)
  | .micro m :: _ => .word (.micro m)
  | .unformatted nbits w :: _ => .word (.unformatted nbits w)

/-- The events of the fetch itself: a byte handed to the decoder is logged first (R67). -/
def fetchEvents : List Request → List Event
  | .wire b _ :: _ => [.diag .rx b]
  | _ => []

/-- The state in which the fetched instruction runs: the request is used up, the outputs of the command before
are gone (R27). -/
def beginCycle (s : State) : State :=
  { s with pending := s.pending.tail, out := { Outputs.idle with events := fetchEvents s.pending } }

/-- A clock edge with `rst` = 1 (R21, R146): reset values, no event; the parameters and the stimulus still to
come are no registers and stay (log 15). -/
def resetState (s : State) : State := { State.reset with cfg := s.cfg, pending := s.pending.tail }

/-- A clock edge that presents the command `code` with its operands. -/
def commandEdge (code : BitVec 3) (row : RowIdx) (col : ColIdx) (adv : AdvIn) : Request :=
  .edge ⟨false, true, code, row, col, adv⟩

/-- The state in which the next step fetches and runs the word `w`: its request is put first, and for a WIRE
word `ds` is the state it names, since (`ds`, `b`) selects the row (R51; log 13). -/
def placeWord (s : State) (w : Word) : State :=
  match w with
  | .wire bits led =>
    { s with ds := .ofCode (bits.extractLsb' 8 4), pending := .wire (bits.extractLsb' 0 8) led :: s.pending }
  | .cmd code row col adv => { s with pending := commandEdge code row col adv :: s.pending }
  | .micro m => { s with pending := .micro m :: s.pending }
  | .unformatted nbits bits => { s with pending := .unformatted nbits bits :: s.pending }

end Sys2Proof.Machine
end

