-- ==== Sys2Proof/Machine/Step.lean ====
section
/-! DEFINITION. One step: one clock edge (spec/10_state.md R21). -/

namespace Sys2Proof.Machine

/-- One step: what stands at the ports is sampled; a command is decoded and performed as one atomic transition
(R9, R21). -/
def step (s : State) : Host.Outcome State Fault Refusal :=
  match fetch s with
  | .idle => .next (beginCycle s)
  | .resetEdge => .next (resetState s)
  | .word w =>
    match decode w with
    | .ok i => exec i (beginCycle s)
    | .error e => .refused (.undecodable e)

/-- `s` with the instruction of an opcode-table row's bits standing where step fetches next (log 13). -/
def State.withFetchWord (s : State) (nbits w : Nat) : State := placeWord s (Word.ofTable nbits w)

end Sys2Proof.Machine
end

