-- ==== Sys2Proof/Machine/Ports.lean ====
section
/-! DEFINITION. The output ports of the block, read off the state after a step: spec/10_state.md R24, R27. -/

namespace Sys2Proof.Machine

/-- The output ports of R27, in the table's order. -/
structure PortOut where
  rxTake     : Bool
  resBit     : Bool
  resRow     : Byte
  resCount   : BitVec 9
  resAlive   : Byte
  modified   : Bool
  hostClear  : Bool
  ledSet     : Bool
  ledMask    : Byte
  mouseSet   : Bool
  mouseDx    : BitVec 8
  mouseDy    : BitVec 8
  mouseWh    : BitVec 8
  mouseWv    : BitVec 8
  mouseFlush : Bool
  diagValid  : Bool
  diagKind   : BitVec 3
  diagByte   : Byte
deriving DecidableEq, Repr

/-- The ports with the levels and results set and every pulse at 0. -/
def quietPorts (s : State) : PortOut :=
  ⟨s.out.rxTake, s.out.resBit, s.out.resRow, s.out.resCount, s.out.resAlive, s.mod,
    false, false, 0, false, 0, 0, 0, 0, false, false, 0, 0⟩

/-- An event as a pulse on its ports (R27). Of two diagnostics the later one is carried: R27 lets an
implementation that cannot carry two drop the RX one (log 18). -/
def drive (p : PortOut) : Event → PortOut
  | .hostClear => { p with hostClear := true }
  | .setLeds m => { p with ledSet := true, ledMask := m }
  | .mouseMotion dx dy wh wv =>
    { p with mouseSet := true, mouseDx := dx, mouseDy := dy, mouseWh := wh, mouseWv := wv }
  | .mouseFlush => { p with mouseFlush := true }
  | .diag k b => { p with diagValid := true, diagKind := diagCode k, diagByte := b }

/-- The output ports after a step. -/
def State.ports (s : State) : PortOut := s.out.events.foldl drive (quietPorts s)

end Sys2Proof.Machine
end

