-- ==== Sys2Proof/Machine/Stimulus.lean ====
section
/-! DEFINITION. The stimulus notation of spec/30_encoding.md R56 and the pseudo-instructions of R57, as the
clock edges they stand for. -/

namespace Sys2Proof.Machine

/-- The `rx` field of an ADV line: `--`, a validated byte, a byte with a transmission error. -/
inductive RxField where
  | none
  | byte (b : Byte)
  | errored (b : Byte)
deriving DecidableEq, Repr

/-- One line of the notation. `btn` is the logical sample, 1 = pressed; an omitted tick is that of the ADV line
before. -/
inductive Line where
  | adv (rx : RxField := .none) (btn : BitVec 2 := 0) (adcX : Sample := 512) (adcY : Sample := 512)
      (tick : Option Tick := Option.none) (led : Byte := 0)
  | clear
  | isOn (row : RowIdx) (col : ColIdx)
  | getRow (row : RowIdx)
  | keyCount
  | nop
deriving DecidableEq, Repr

/-- The input record of an ADV line (R56): the pins are the complement of the logical sample. -/
def advInOf (rx : RxField) (btn : BitVec 2) (adcX adcY : Sample) (tick : Tick) (led : Byte) : AdvIn :=
  match rx with
  | .none => ⟨false, false, 0, ~~~btn, adcX, adcY, tick, led⟩
  | .byte b => ⟨true, false, b, ~~~btn, adcX, adcY, tick, led⟩
  | .errored b => ⟨true, true, b, ~~~btn, adcX, adcY, tick, led⟩

/-- The requests of a program, the tick of the last ADV line being `tick0` (0 at the first). -/
def assemble (tick0 : Tick) : List Line → List Request
  | [] => []
  | .adv rx btn adcX adcY tick led :: rest =>
    let t := tick.getD tick0
    commandEdge 1 0 0 (advInOf rx btn adcX adcY t led) :: assemble t rest
  | .clear :: rest => commandEdge 2 0 0 .zero :: assemble tick0 rest
  | .isOn row col :: rest => commandEdge 3 row col .zero :: assemble tick0 rest
  | .getRow row :: rest => commandEdge 4 row 0 .zero :: assemble tick0 rest
  | .keyCount :: rest => commandEdge 5 0 0 .zero :: assemble tick0 rest
  | .nop :: rest => commandEdge 0 0 0 .zero :: assemble tick0 rest

/-- `RX hh`. -/
def rx (b : Byte) : Line := .adv (rx := .byte b)

/-- `ERR hh`. -/
def rxErr (b : Byte) : Line := .adv (rx := .errored b)

/-- `IDLE`. -/
def idleLine : Line := .adv

/-- `MAKE c`. -/
def makeLines (c : Byte) : List Line := [rx c]

/-- `BREAK c`. -/
def breakLines (c : Byte) : List Line := [rx 0xF0, rx c]

/-- `XMAKE c`. -/
def xmakeLines (c : Byte) : List Line := [rx 0xE0, rx c]

/-- `XBREAK c`. -/
def xbreakLines (c : Byte) : List Line := [rx 0xE0, rx 0xF0, rx c]

/-- The bytes of the Pause sequence, format P8 (R48). -/
def pauseBytes : List Byte := [0xE1, 0x14, 0x77, 0xE1, 0xF0, 0x14, 0xF0, 0x77]

/-- The bytes of the Control'd Pause sequence, format P5 (R48). -/
def ctrlPauseBytes : List Byte := [0xE0, 0x7E, 0xE0, 0xF0, 0x7E]

/-- `PAUSE`. -/
def pauseLines : List Line := pauseBytes.map rx

/-- `CPAUSE`. -/
def ctrlPauseLines : List Line := ctrlPauseBytes.map rx

end Sys2Proof.Machine
end

