-- ==== Sys2Proof/Safety.lean ====
section
/-! DEFINITION. The words claims are written in: what counts as the hardware's own stimulus, what a transition may
change, and the invariant of a run. -/

namespace Sys2Proof.Machine

/-- A request the port offers: a clock edge (R26: `make` and `break_` are not on the exposed surface). -/
def Request.isEdge : Request → Bool
  | .edge _ => true
  | .wire _ _ => false
  | .micro _ => false
  | .unformatted _ _ => false

/-- Every request still to come is a clock edge: the states the hardware has (log 2). -/
def State.portOnly (s : State) : Bool := s.pending.all Request.isEdge

/-- An ADVANCE command at the port. -/
def advanceEdge (inp : AdvIn) : Request := commandEdge 1 0 0 inp

/-- From `s` to `t` the position `a` is set, no other changes, and `mod` records a transition (R61). -/
def OnlySets (a : MatrixAddr) (s t : State) : Prop :=
  (∀ a', readBit t a' = (a' == a || readBit s a')) ∧ t.mod = (s.mod || !readBit s a)

/-- From `s` to `t` the position `a` is released, no other changes, and `mod` records a transition (R62). -/
def OnlyReleases (a : MatrixAddr) (s t : State) : Prop :=
  (∀ a', readBit t a' = (a' != a && readBit s a')) ∧ t.mod = (s.mod || readBit s a)

/-- No position is set. -/
def AllReleased (s : State) : Prop := ∀ a, readBit s a = false

/-- `s` with the events `es` appended to those of the current command. -/
def State.emitting (s : State) (es : List Event) : State :=
  { s with out := { s.out with events := s.out.events ++ es } }

/-- The only change is `ds`. -/
def MovesTo (d : DecState) (s t : State) : Prop := t = { s with ds := d }

/-- `make(a)`, then INIT; every other field as before. -/
def MakesThenInit (a : MatrixAddr) (s t : State) : Prop :=
  OnlySets a s t ∧ t = { s with x := t.x, mod := t.mod, ds := .init }

/-- `break_(a)`, then INIT; every other field as before. -/
def BreaksThenInit (a : MatrixAddr) (s t : State) : Prop :=
  OnlyReleases a s t ∧ t = { s with x := t.x, mod := t.mod, ds := .init }

/-- The recovery of R132 and R133, then `ds <- d`: every position released, HostClear and the diagnostic in that
order, every other field (`mod` included) as before. -/
def RecoversTo (d : DecState) (k : DiagKind) (b : Byte) (s t : State) : Prop :=
  AllReleased t ∧ t = { s.emitting [.hostClear, .diag k b] with x := t.x, ds := d }

/-- The self-test report and the LED refresh (R74, R75), then INIT; every other field as before. -/
def ReportsSelfTest (k : DiagKind) (b led : Byte) (s t : State) : Prop :=
  t = { s.emitting [.diag k b, .setLeds led] with ds := .init }

/-- State `d` and byte `b` select the instruction `i`, and `i` runs from every state and does what `post` says. -/
def RowRuns (d : DecState) (b : Byte) (i : Instr) (post : State → State → Prop) : Prop :=
  ∀ (s : State) (led : Byte), decode (.wire (wireBits d b) led) = .ok i ∧ ∃ t, exec i s = .next t ∧ post s t

/-- The bytes that raise Desync, per state (R54). -/
def unexpected (d : DecState) (b : Byte) : Bool :=
  match d with
  | .init => !isCode b && !(b ∈ ([0xE0, 0xE1, 0xF0, 0x83, 0x84, 0xAA, 0xFC] : List Byte))
  | .e0 => !isCode b && b != 0xF0
  | .f0 => !isCode b && !(b ∈ ([0x83, 0x84] : List Byte))
  | .e0_F0 => !isCode b
  | .e1 | .e1_14 | .e1_14_77 | .e1_14_77_E1 | .e1_14_77_E1_F0 | .e1_14_77_E1_F0_14 | .e1_14_77_E1_F0_14_F0 => false
  | .e0_7E | .e0_7E_E0 | .e0_7E_E0_F0 => false

/-- What decoding the byte `b` in state `d` emits: the log of the byte (D21), then what its cause calls for (R132 to
R134, D20). -/
def byteEvents (d : DecState) (b led : Byte) : List Event :=
  if unexpected d b then [.diag .rx b, .hostClear, .diag .unexpected b]
  else if d = .init ∧ b = 0x00 then [.diag .rx b, .hostClear, .diag .overrun 0x00]
  else if d = .init ∧ b = 0xAA then [.diag .rx b, .diag .selftestPass 0xAA, .setLeds led]
  else if d = .init ∧ b = 0xFC then [.diag .rx b, .diag .selftestFail 0xFC, .setLeds led]
  else [.diag .rx b]

/-- An instruction that is a transition of the decoder, or a micro-operation or command that can perform one: DECODE,
and RECEIVE and ADVANCE with a validated byte (R16). -/
def performsTransition : Instr → Bool
  | .nop | .clear | .isOn _ _ | .getRow _ | .keyCount | .reserved _ => false
  | .makeKey _ | .breakKey _ | .pseudoBreak | .debounce _ _ | .mapAxis _ | .thumbstick _ _ => false
  | .advance inp => inp.rxValid && !inp.rxError
  | .receive valid error _ _ => valid && !error
  | .decodeByte _ _ => true
  | .initOnE0 | .initOnF0 | .initOnE1 | .initOn83 | .initOn84 | .initOn00 | .initOnAA _ | .initOnFC _
  | .initOnLow _ | .initOnHigh _ | .e0On12 | .e0On59 | .e0On7E | .e0OnF0 | .e0OnLow _ | .e0OnHigh _
  | .f0On83 | .f0On84 | .f0OnF0 | .f0OnLow _ | .f0OnHigh _ | .e0_F0On12 | .e0_F0On59 | .e0_F0OnLow _
  | .e0_F0OnHigh _ | .e1On14 | .e1OnOther _ | .e1_14On77 | .e1_14OnOther _ | .e1_14_77OnE1
  | .e1_14_77OnOther _ | .e1_14_77_E1OnF0 | .e1_14_77_E1OnOther _ | .e1_14_77_E1_F0On14
  | .e1_14_77_E1_F0OnOther _ | .e1_14_77_E1_F0_14OnF0 | .e1_14_77_E1_F0_14OnOther _
  | .e1_14_77_E1_F0_14_F0On77 | .e1_14_77_E1_F0_14_F0OnOther _ | .e0_7EOnE0 | .e0_7EOnOther _
  | .e0_7E_E0OnF0 | .e0_7E_E0OnOther _ | .e0_7E_E0_F0On7E | .e0_7E_E0_F0OnOther _ => true

/-- The commands and micro-operations that write no register at all. -/
def isQuery : Instr → Bool
  | .nop | .isOn _ _ | .getRow _ | .keyCount | .reserved _ | .mapAxis _ => true
  | .advance _ | .clear | .makeKey _ | .breakKey _ | .pseudoBreak | .receive _ _ _ _ | .decodeByte _ _ => false
  | .debounce _ _ | .thumbstick _ _ => false
  | .initOnE0 | .initOnF0 | .initOnE1 | .initOn83 | .initOn84 | .initOn00 | .initOnAA _ | .initOnFC _
  | .initOnLow _ | .initOnHigh _ | .e0On12 | .e0On59 | .e0On7E | .e0OnF0 | .e0OnLow _ | .e0OnHigh _
  | .f0On83 | .f0On84 | .f0OnF0 | .f0OnLow _ | .f0OnHigh _ | .e0_F0On12 | .e0_F0On59 | .e0_F0OnLow _
  | .e0_F0OnHigh _ | .e1On14 | .e1OnOther _ | .e1_14On77 | .e1_14OnOther _ | .e1_14_77OnE1
  | .e1_14_77OnOther _ | .e1_14_77_E1OnF0 | .e1_14_77_E1OnOther _ | .e1_14_77_E1_F0On14
  | .e1_14_77_E1_F0OnOther _ | .e1_14_77_E1_F0_14OnF0 | .e1_14_77_E1_F0_14OnOther _
  | .e1_14_77_E1_F0_14_F0On77 | .e1_14_77_E1_F0_14_F0OnOther _ | .e0_7EOnE0 | .e0_7EOnOther _
  | .e0_7E_E0OnF0 | .e0_7E_E0OnOther _ | .e0_7E_E0_F0On7E | .e0_7E_E0_F0OnOther _ => false

/-- What holds of every state of a run of the hardware. -/
structure Inv (s : State) : Prop where
  /-- Only clock edges are still to come (R26). -/
  portOnly  : s.portOnly = true
  /-- Address 0x00 is never set: no transition makes it and no button is there (R34, R58). -/
  zeroOff   : readBit s 0x00 = false
  /-- While no debounce runs, the pending sample is the stable one (R116, R118). -/
  settled   : s.dbBusy = false → s.dbRaw = s.dbStable
  /-- The range of the thumbstick registers (R18). -/
  tsXRange  : -126 ≤ s.tsX.toInt ∧ s.tsX.toInt ≤ 126
  tsYRange  : -126 ≤ s.tsY.toInt ∧ s.tsY.toInt ≤ 126
  /-- A set Pause position is flagged, and the decoder is back in INIT (R128). -/
  pauseFlag : readBit s pauseAddr = true → s.mod = true ∧ s.ds = .init

end Sys2Proof.Machine
end

