-- ==== Sys2Proof/Certificates/Slice0/Obligations.lean ====
section
/-! DEFINITION. The statements for the provers. Each docstring names the rules of spec/ it formalises; where a clause
rests on a decision the spec marks as its own (D<n>) or on a log entry, the docstring says so. -/

open Sys2Proof Sys2Proof.Machine

/-! ### Encoding -/

/-- Words written out bit by bit from R52, R53 and the table's `encoding` strings decode to the instructions they stand
for. The state codes and command codes are the spec's decisions D2, D3 (log 28). -/
def Obligations.SpecWordsDecodeToTheirInstructions : Prop :=
  decode (.wire 0b0000_11100000 0) = .ok .initOnE0 ∧
  decode (.wire 0b0000_11111100 0x07) = .ok (.initOnFC 0x07) ∧
  decode (.wire 0b0001_01110101 0) = .ok (.e0OnLow 0x75) ∧
  decode (.wire 0b0010_11110000 0) = .ok .f0OnF0 ∧
  decode (.wire 0b0011_01011001 0) = .ok .e0_F0On59 ∧
  decode (.wire 0b1010_01110111 0) = .ok .e1_14_77_E1_F0_14_F0On77 ∧
  decode (.wire 0b1101_01111110 0) = .ok .e0_7E_E0_F0On7E ∧
  decode (.cmd 0b011 0b00011 0b100 .zero) = .ok (.isOn 3 4) ∧
  decode (.micro (.receive 0b10_00011100 0)) = .ok (.receive true false 0x1C 0) ∧
  decode (.micro (.debounce 0b10_0000000000000011)) = .ok (.debounce 2 3) ∧
  decode (.micro (.thumbstick 0b1111111111_0000000001)) = .ok (.thumbstick 1023 1)

/-- Decoding the word of a well-formed instruction gives it back, with every operand: no bit of an encoding is dropped. -/
def Obligations.EncodedInstructionsDecodeBack : Prop :=
  ∀ i : Instr, wellFormed i = true → decode (encode i) = .ok i

/-- What the decoder reads from any word is a well-formed instruction. -/
def Obligations.DecodedInstructionsAreWellFormed : Prop :=
  ∀ (w : Word) (i : Instr), decode w = .ok i → wellFormed i = true

/-- The transition table is total and merges nothing: every pair (`ds`, `b`) selects a well-formed row whose own word is
that pair (R51). -/
def Obligations.EveryStateAndByteSelectOneRow : Prop :=
  ∀ (d : DecState) (b led : Byte), ∃ i l,
    decode (.wire (wireBits d b) led) = .ok i ∧ wellFormed i = true ∧ encode i = .wire (wireBits d b) l

/-! ### The decoder's transitions -/

/-- DECODE logs the byte, then runs the instruction that (`ds`, byte) selects (R67; that every validated byte is logged,
and first, is the spec's decision D21, log 26). -/
def Obligations.DecodeRunsTheSelectedRow : Prop :=
  ∀ (s : State) (b led : Byte),
    exec (.decodeByte b led) s = exec (decodeWire s.ds b led) (s.emitting [.diag .rx b])

/-- INIT on 0xE0, 0xF0, 0xE1 and E0 on 0x7E, 0xF0: only `ds` changes, address 0xFE is not made (R68, R69, R70, R80, R81). -/
def Obligations.PrefixBytesOnlyMoveTheDecoder : Prop :=
  RowRuns .init 0xE0 .initOnE0 (MovesTo .e0) ∧
  RowRuns .init 0xF0 .initOnF0 (MovesTo .f0) ∧
  RowRuns .init 0xE1 .initOnE1 (MovesTo .e1) ∧
  RowRuns .e0 0x7E .e0On7E (MovesTo .e0_7E) ∧
  RowRuns .e0 0xF0 .e0OnF0 (MovesTo .e0_F0)

/-- 0x83 and 0x84 make the F7 and the PrintScreen address in INIT and break them in F0, and nothing else changes (R71, R72, R84,
R85). -/
def Obligations.SpecialBytesMakeAndBreakF7AndPrintScreen : Prop :=
  RowRuns .init 0x83 .initOn83 (MakesThenInit 0x83) ∧
  RowRuns .init 0x84 .initOn84 (MakesThenInit 0xFC) ∧
  RowRuns .f0 0x83 .f0On83 (BreaksThenInit 0x83) ∧
  RowRuns .f0 0x84 .f0On84 (BreaksThenInit 0xFC)

/-- INIT on any other byte below 0x80 makes that address and no other (R76). -/
def Obligations.InitOnCodeMakesExactlyThatPosition : Prop :=
  ∀ b : Byte, 0x01 ≤ b.toNat → b.toNat ≤ 0x7F → RowRuns .init b (.initOnLow b) (MakesThenInit b)

/-- INIT on 0x00 performs the Overrun recovery (R73, R133); that `mod` keeps its value is the spec's decision D6 (log 22). -/
def Obligations.InitOnZeroRecoversFromOverrun : Prop :=
  RowRuns .init 0x00 .initOn00 (RecoversTo .init .overrun 0x00)

/-- INIT on 0xAA and 0xFC report the self-test and refresh the LEDs from the host's word, and touch nothing else (R74, R75,
R134); which byte is the passed one is the spec's decision D20 (log 26). -/
def Obligations.InitOnSelfTestBytesReportsAndRefreshesLeds : Prop :=
  ∀ (s : State) (led : Byte),
    decode (.wire (wireBits .init 0xAA) led) = .ok (.initOnAA led) ∧
    decode (.wire (wireBits .init 0xFC) led) = .ok (.initOnFC led) ∧
    (∃ t, exec (.initOnAA led) s = .next t ∧ ReportsSelfTest .selftestPass 0xAA led s t) ∧
    (∃ t, exec (.initOnFC led) s = .next t ∧ ReportsSelfTest .selftestFail 0xFC led s t)

/-- A byte that is unexpected in INIT, E0, F0 or E0_F0 performs the Desync recovery and returns to INIT; 0xF0 in F0 performs it
and stays in F0 (R77, R83, R86, R88, R92, R132); that `mod` keeps its value is the spec's decision D6 (log 22). -/
def Obligations.UnexpectedBytesRecover : Prop :=
  (∀ b, unexpected .init b = true → RowRuns .init b (.initOnHigh b) (RecoversTo .init .unexpected b)) ∧
  (∀ b, unexpected .e0 b = true → RowRuns .e0 b (.e0OnHigh b) (RecoversTo .init .unexpected b)) ∧
  (∀ b, unexpected .f0 b = true → b ≠ 0xF0 → RowRuns .f0 b (.f0OnHigh b) (RecoversTo .init .unexpected b)) ∧
  RowRuns .f0 0xF0 .f0OnF0 (RecoversTo .f0 .unexpected 0xF0) ∧
  (∀ b, unexpected .e0_F0 b = true → RowRuns .e0_F0 b (.e0_F0OnHigh b) (RecoversTo .init .unexpected b))

/-- The shift-interaction noise 0x12, 0x59 after E0 and after E0 F0 is swallowed: only `ds` changes (R78, R79, R89, R90). -/
def Obligations.ShiftInteractionNoiseIsSwallowed : Prop :=
  RowRuns .e0 0x12 .e0On12 (MovesTo .init) ∧
  RowRuns .e0 0x59 .e0On59 (MovesTo .init) ∧
  RowRuns .e0_F0 0x12 .e0_F0On12 (MovesTo .init) ∧
  RowRuns .e0_F0 0x59 .e0_F0On59 (MovesTo .init)

/-- E0 on any other code makes the code with bit 7 set (R82). -/
def Obligations.ExtendedCodeMakesUpperHalfPosition : Prop :=
  ∀ b : Byte, b.toNat < 0x80 → b ≠ 0x12 → b ≠ 0x59 → b ≠ 0x7E →
    RowRuns .e0 b (.e0OnLow b) (MakesThenInit (b ||| 0x80))

/-- F0 on any code, 0x00, 0x12 and 0x59 among them, breaks that address (R87). -/
def Obligations.BreakPrefixOnCodeReleasesExactlyThatPosition : Prop :=
  ∀ b : Byte, b.toNat < 0x80 → RowRuns .f0 b (.f0OnLow b) (BreaksThenInit b)

/-- E0_F0 on any code but 0x12 and 0x59 breaks the code with bit 7 set (R91). -/
def Obligations.ExtendedBreakReleasesUpperHalfPosition : Prop :=
  ∀ b : Byte, b.toNat < 0x80 → b ≠ 0x12 → b ≠ 0x59 →
    RowRuns .e0_F0 b (.e0_F0OnLow b) (BreaksThenInit (b ||| 0x80))

/-- The expected bytes inside the two Pause chains only move the decoder along (R95, R97, R99, R101, R103, R105; R109,
R111). -/
def Obligations.PauseChainsAdvanceOnTheirExpectedBytes : Prop :=
  RowRuns .e1 0x14 .e1On14 (MovesTo .e1_14) ∧
  RowRuns .e1_14 0x77 .e1_14On77 (MovesTo .e1_14_77) ∧
  RowRuns .e1_14_77 0xE1 .e1_14_77OnE1 (MovesTo .e1_14_77_E1) ∧
  RowRuns .e1_14_77_E1 0xF0 .e1_14_77_E1OnF0 (MovesTo .e1_14_77_E1_F0) ∧
  RowRuns .e1_14_77_E1_F0 0x14 .e1_14_77_E1_F0On14 (MovesTo .e1_14_77_E1_F0_14) ∧
  RowRuns .e1_14_77_E1_F0_14 0xF0 .e1_14_77_E1_F0_14OnF0 (MovesTo .e1_14_77_E1_F0_14_F0) ∧
  RowRuns .e0_7E 0xE0 .e0_7EOnE0 (MovesTo .e0_7E_E0) ∧
  RowRuns .e0_7E_E0 0xF0 .e0_7E_E0OnF0 (MovesTo .e0_7E_E0_F0)

/-- Any other byte inside a chain is swallowed and ends it (R96, R98, R100, R102, R104, R106, R108, R110, R112, R114); that
it is consumed, whatever it is, and raises nothing is the spec's decision D27 (log 27). -/
def Obligations.PauseChainsSwallowEveryOtherByte : Prop :=
  (∀ b, b ≠ 0x14 → RowRuns .e1 b (.e1OnOther b) (MovesTo .init)) ∧
  (∀ b, b ≠ 0x77 → RowRuns .e1_14 b (.e1_14OnOther b) (MovesTo .init)) ∧
  (∀ b, b ≠ 0xE1 → RowRuns .e1_14_77 b (.e1_14_77OnOther b) (MovesTo .init)) ∧
  (∀ b, b ≠ 0xF0 → RowRuns .e1_14_77_E1 b (.e1_14_77_E1OnOther b) (MovesTo .init)) ∧
  (∀ b, b ≠ 0x14 → RowRuns .e1_14_77_E1_F0 b (.e1_14_77_E1_F0OnOther b) (MovesTo .init)) ∧
  (∀ b, b ≠ 0xF0 → RowRuns .e1_14_77_E1_F0_14 b (.e1_14_77_E1_F0_14OnOther b) (MovesTo .init)) ∧
  (∀ b, b ≠ 0x77 → RowRuns .e1_14_77_E1_F0_14_F0 b (.e1_14_77_E1_F0_14_F0OnOther b) (MovesTo .init)) ∧
  (∀ b, b ≠ 0xE0 → RowRuns .e0_7E b (.e0_7EOnOther b) (MovesTo .init)) ∧
  (∀ b, b ≠ 0xF0 → RowRuns .e0_7E_E0 b (.e0_7E_E0OnOther b) (MovesTo .init)) ∧
  (∀ b, b ≠ 0x7E → RowRuns .e0_7E_E0_F0 b (.e0_7E_E0_F0OnOther b) (MovesTo .init))

/-- The last byte of either Pause sequence makes the Pause address, and 0x77 or 0x7E itself is neither made nor broken
(R107, R113). -/
def Obligations.LastByteOfPauseMakesThePauseAddress : Prop :=
  RowRuns .e1_14_77_E1_F0_14_F0 0x77 .e1_14_77_E1_F0_14_F0On77 (MakesThenInit 0xFE) ∧
  RowRuns .e0_7E_E0_F0 0x7E .e0_7E_E0_F0On7E (MakesThenInit 0xFE)

/-- What DECODE emits, by its cause: the log of the byte, and after it the recovery of the one exception the pair (`ds`, byte)
raises, the self-test report, or nothing (R54, R130, R135, R137; D20, D21, log 26). -/
def Obligations.DecodeEmitsTheRecoveryOfItsCause : Prop :=
  ∀ (s : State) (b led : Byte), ∃ t, exec (.decodeByte b led) s = .next t ∧
    t.out.events = s.out.events ++ byteEvents s.ds b led

/-- The addresses a decoded byte can make are all but 0x00, 0x92 and 0xD9; those it can break, outside a recovery, are all
but 0x92 and 0xD9 (R34). -/
def Obligations.DecoderReachesAllButTheReservedAddresses : Prop :=
  (∀ a : MatrixAddr,
    (∃ s b led t, exec (.decodeByte b led) s = .next t ∧ readBit s a = false ∧ readBit t a = true) ↔
      a ≠ 0x00 ∧ a ≠ 0x92 ∧ a ≠ 0xD9) ∧
  (∀ a : MatrixAddr,
    (∃ s b led t, exec (.decodeByte b led) s = .next t ∧ t.out.events = s.out.events ++ [.diag .rx b] ∧
      readBit s a = true ∧ readBit t a = false) ↔
      a ≠ 0x92 ∧ a ≠ 0xD9)

/-! ### The Key Matrix -/

/-- IS_ON answers the bit at (row, column) and writes nothing else (R58). -/
def Obligations.IsOnAnswersTheAddressedBit : Prop :=
  ∀ (s : State) (row : RowIdx) (col : ColIdx), ∃ t, exec (.isOn row col) s = .next t ∧
    t.out.resBit = (s.x[row.toNat]'(row.isLt)).getLsbD col.toNat ∧
    t = { s with out := { s.out with resBit := t.out.resBit } }

/-- GET_ROW answers the row: bit `c` of the result is what IS_ON says of column `c`; nothing else is written (R59, R65 (f);
the bit order is the spec's decision D5, log 22). -/
def Obligations.GetRowAgreesWithIsOn : Prop :=
  ∀ (s : State) (row : RowIdx), ∃ t, exec (.getRow row) s = .next t ∧
    t.out.resRow = s.x[row.toNat]'(row.isLt) ∧
    t = { s with out := { s.out with resRow := t.out.resRow } } ∧
    ∀ col : ColIdx, ∃ u, exec (.isOn row col) s = .next u ∧ u.out.resBit = t.out.resRow.getLsbD col.toNat

/-- KEY_COUNT answers the number of pairs (row, column) that are on, with no wrap, and writes nothing else (R60, R65 (f), R66;
the width is the spec's decision D32, log 22). -/
def Obligations.KeyCountIsTheNumberOfSetPositions : Prop :=
  ∀ s : State, ∃ t, exec .keyCount s = .next t ∧
    t.out.resCount.toNat =
      ((List.finRange 32).map fun r => (List.finRange 8).countP fun c =>
        readBit s (addrOf (BitVec.ofFin r) (BitVec.ofFin c))).sum ∧
    t = { s with out := { s.out with resCount := t.out.resCount } }

/-- `make` sets its own bit and no other, and sets `mod` exactly on a transition (R61). -/
def Obligations.MakeSetsOneBitAndFlagsATransition : Prop :=
  ∀ (s : State) (a : MatrixAddr), ∃ t, exec (.makeKey a) s = .next t ∧
    (∀ a', readBit t a' = if a' = a then true else readBit s a') ∧
    t.mod = (if readBit s a = false then true else s.mod) ∧
    t = { s with x := t.x, mod := t.mod }

/-- `break_` clears its own bit and no other, and sets `mod` exactly on a transition (R62). -/
def Obligations.BreakClearsOneBitAndFlagsATransition : Prop :=
  ∀ (s : State) (a : MatrixAddr), ∃ t, exec (.breakKey a) s = .next t ∧
    (∀ a', readBit t a' = if a' = a then false else readBit s a') ∧
    t.mod = (if readBit s a = true then true else s.mod) ∧
    t = { s with x := t.x, mod := t.mod }

/-- CLEAR releases every position, so KEY_COUNT then answers 0, and writes nothing else: no event, `ds` and `mod` as before (R63,
R64, R65 (e); the last two are the spec's decisions D6 and D31, log 22). -/
def Obligations.ClearReleasesEveryPositionAndNothingElse : Prop :=
  ∀ s : State, ∃ t, exec .clear s = .next t ∧ AllReleased t ∧ t = { s with x := t.x } ∧
    ∃ u, exec .keyCount t = .next u ∧ u.out.resCount = 0

/-- `make` and `break_` are idempotent; a make and a break of a released position, each in its own cycle, restore the matrix
with the flag set both times; whichever comes last decides the bit (R65 (b), (c), (d)). -/
def Obligations.MakeAndBreakLaws : Prop :=
  ∀ (s t u : State) (a : MatrixAddr),
    (exec (.makeKey a) s = .next t → exec (.makeKey a) t = .next t) ∧
    (exec (.breakKey a) s = .next t → exec (.breakKey a) t = .next t) ∧
    (exec (.makeKey a) s = .next t → exec (.breakKey a) t = .next u → readBit u a = false) ∧
    (exec (.breakKey a) s = .next t → exec (.makeKey a) t = .next u → readBit u a = true) ∧
    (readBit s a = false → exec (.makeKey a) s = .next t → exec (.breakKey a) (resetMod t) = .next u →
      t.mod = true ∧ u.mod = true ∧ u.x = s.x)

/-! ### The debouncer -/

/-- One debounce pass: it observes a changed sample and restarts the timer; or waits; or the timer runs out with nothing to
commit; or it commits both buttons (R115, R116, R117; the reading of the commit clause and its calls are the spec's decisions
D9, D10, D11, log 23). -/
def Obligations.DebouncePassObservesWaitsOrCommits : Prop :=
  ∀ (s : State) (n : BitVec 2) (tick : Tick), ∃ t, exec (.debounce n tick) s = .next t ∧
    (~~~n ≠ s.dbRaw → t = { s with dbRaw := ~~~n, dbBusy := true, dbT0 := tick }) ∧
    (~~~n = s.dbRaw → s.dbBusy = false ∨ (tick - s.dbT0).toNat ≤ s.cfg.debounce.val → t = s) ∧
    (~~~n = s.dbRaw → s.dbBusy = true → s.cfg.debounce.val < (tick - s.dbT0).toNat → s.dbRaw = s.dbStable →
      t = { s with dbBusy := false }) ∧
    (~~~n = s.dbRaw → s.dbBusy = true → s.cfg.debounce.val < (tick - s.dbT0).toNat → s.dbRaw ≠ s.dbStable →
      (∀ a, readBit t a =
        if a = btnAddr0 s.cfg then s.dbRaw.getLsbD 0
        else if a = btnAddr1 s.cfg then s.dbRaw.getLsbD 1
        else readBit s a) ∧
      t.mod = (s.mod || (readBit s (btnAddr0 s.cfg) != s.dbRaw.getLsbD 0)
        || (readBit s (btnAddr1 s.cfg) != s.dbRaw.getLsbD 1)) ∧
      t = { s with x := t.x, mod := t.mod, dbStable := s.dbRaw, dbBusy := false })

/-- With fewer than 2^16 ticks between start and poll, `elapsed` is the true number of ticks, across a wrap as well (R117, R151;
the width is the spec's decision D9, log 23). -/
def Obligations.ElapsedIsTheTrueTickCount : Prop :=
  ∀ t0 now : Nat, t0 ≤ now → now < t0 + 65536 → elapsed (BitVec.ofNat 16 now) (BitVec.ofNat 16 t0) = now - t0

/-- A sample equal to the stable one never commits: no position and not `mod` changes, whatever was pending (R118 (a)). -/
def Obligations.RevertedSampleNeverCommits : Prop :=
  ∀ (s : State) (n : BitVec 2) (tick : Tick), ~~~n = s.dbStable →
    ∃ t, exec (.debounce n tick) s = .next t ∧ (∀ a, readBit t a = readBit s a) ∧ t.mod = s.mod ∧
      t.dbStable = s.dbStable

/-- A commit happens only for a sample that was pending for more than `DEBOUNCE` ticks, and then once: the passes after it with
the same sample change nothing (R118 (b), (c)). -/
def Obligations.PersistingSampleCommitsExactlyOnce : Prop :=
  ∀ (s t : State) (n : BitVec 2) (tick : Tick), exec (.debounce n tick) s = .next t → t.dbStable ≠ s.dbStable →
    s.dbBusy = true ∧ s.dbRaw = ~~~n ∧ s.cfg.debounce.val < elapsed tick s.dbT0 ∧ t.dbStable = ~~~n ∧
    ∀ tick', exec (.debounce n tick') t = .next t

/-! ### The thumbstick mapper -/

/-- MAP answers `map(v)`: 0 in the deadzone, else the scaled magnitude rounded down with the sign of the side; it writes
nothing else (R120; centre and rounding are the spec's decisions D13, D14, log 24; the result port is the model's, log 3). -/
def Obligations.MapScalesTheMagnitudeOutsideTheDeadzone : Prop :=
  ∀ (s : State) (v : Sample), ∃ t, exec (.mapAxis v) s = .next t ∧
    t = { s with out := { s.out with resMap := t.out.resMap } } ∧
    (448 < v.toNat → v.toNat < 576 → t.out.resMap = 0) ∧
    (v.toNat ≤ 448 → t.out.resMap = -((s.cfg.maxSpeed * (512 - v.toNat) / 320 : Nat) : Int)) ∧
    (576 ≤ v.toNat → t.out.resMap = ((s.cfg.maxSpeed * (v.toNat - 512) / 320 : Nat) : Int))

/-- `map` stays within -126 to 126, is zero exactly on 449 to 575, is monotonic, and is odd about the centre (R121). -/
def Obligations.MapIsBoundedMonotonicAndOdd : Prop :=
  ∀ (p : Params) (v w : Sample),
    -126 ≤ mapSample p v ∧ mapSample p v ≤ 126 ∧
    (mapSample p v = 0 ↔ 449 ≤ v.toNat ∧ v.toNat ≤ 575) ∧
    (v.toNat ≤ w.toNat → mapSample p v ≤ mapSample p w) ∧
    (v.toNat + w.toNat = 1024 → mapSample p w = -mapSample p v)

/-- A thumbstick pass reports exactly when a mapped value changed or is not zero: one motion, the vertical axis negated, and one
flush; it stores both mapped values and touches nothing else (R122; D16, D17, log 24). -/
def Obligations.ThumbstickReportsChangesAndDeflection : Prop :=
  ∀ (s : State) (vx vy : Sample), ∃ t dx dy, exec (.thumbstick vx vy) s = .next t ∧
    t.tsX.toInt = mapSample s.cfg vx ∧ t.tsY.toInt = mapSample s.cfg vy ∧
    dx.toInt = mapSample s.cfg vx ∧ dy.toInt = -mapSample s.cfg vy ∧
    t.out.events = s.out.events ++
      (if mapSample s.cfg vx = s.tsX.toInt ∧ mapSample s.cfg vy = s.tsY.toInt ∧
          mapSample s.cfg vx = 0 ∧ mapSample s.cfg vy = 0
        then [] else [.mouseMotion dx dy 0 0, .mouseFlush]) ∧
    t = { s with tsX := t.tsX, tsY := t.tsY, out := { s.out with events := t.out.events } }

/-! ### The driver loop -/

/-- The pseudo-break releases Pause if it is set, flags that, and does nothing else (R125). -/
def Obligations.PseudoBreakReleasesPause : Prop :=
  ∀ s : State, ∃ t, exec .pseudoBreak s = .next t ∧ OnlyReleases 0xFE s t ∧ t = { s with x := t.x, mod := t.mod } ∧
    (readBit s 0xFE = false → t = s)

/-- RECEIVE takes the byte if there is one; it decodes a validated byte and does nothing with a flagged one (R126; the handshake
is the spec's decision D4, log 29, and that a dropped byte is not logged D21, log 26). -/
def Obligations.ReceiveGatesTheDecoder : Prop :=
  ∀ (s : State) (error : Bool) (b led : Byte),
    exec (.receive false error b led) s = .next { s with out := { s.out with rxTake := false } } ∧
    exec (.receive true true b led) s = .next { s with out := { s.out with rxTake := true } } ∧
    ∃ t, exec (.receive true false b led) s = .next t ∧
      exec (.decodeByte b led) { s with out := { s.out with rxTake := true } } = .next t

/-- ADVANCE completes from every state on every input: `mod` reset, then pseudo-break, receive, debounce and thumbstick in this
order, and the liveness code 0x01 (R124, R127; the place of the flag reset and the code are the spec's decisions D18, D23,
log 25). -/
def Obligations.AdvanceRunsItsPhasesInOrder : Prop :=
  ∀ (s : State) (inp : AdvIn), ∃ t1 t2 t3 t4,
    exec .pseudoBreak { s with mod := false } = .next t1 ∧
    exec (.receive inp.rxValid inp.rxError inp.rxByte inp.hostLed) t1 = .next t2 ∧
    exec (.debounce inp.btnN inp.tick) t2 = .next t3 ∧
    exec (.thumbstick inp.adcX inp.adcY) t3 = .next t4 ∧
    exec (.advance inp) s = .next { t4 with out := { t4.out with resAlive := 0x01 } }

/-- A byte flagged with a transmission error is dropped: RECEIVE changes nothing but `rx_take`, and the ADVANCE is that of a
cycle with no byte, but for `rx_take` (R131; that the errored byte is taken is the spec's decision D4, log 29, and that it is not
logged D21, log 26). -/
def Obligations.TransportErrorOnlyDropsTheByte : Prop :=
  ∀ (s : State) (inp : AdvIn),
    exec (.receive true true inp.rxByte inp.hostLed) s = .next { s with out := { s.out with rxTake := true } } ∧
    ∃ t, exec (.advance { inp with rxValid := false }) s = .next t ∧
      exec (.advance { inp with rxValid := true, rxError := true }) s = .next { t with out := { t.out with rxTake := true } }

/-- After an ADVANCE the Pause position is set exactly if that ADVANCE decoded the last byte of a Pause sequence, and then `mod`
is 1 and the decoder in INIT (R128). -/
def Obligations.PauseIsSetExactlyByTheEndOfASequence : Prop :=
  ∀ (s : State) (inp : AdvIn), ∃ t, exec (.advance inp) s = .next t ∧
    (readBit t pauseAddr = true ↔
      inp.rxValid = true ∧ inp.rxError = false ∧
        ((s.ds = .e1_14_77_E1_F0_14_F0 ∧ inp.rxByte = 0x77) ∨ (s.ds = .e0_7E_E0_F0 ∧ inp.rxByte = 0x7E))) ∧
    (readBit t pauseAddr = true → t.mod = true ∧ t.ds = .init)

/-- In the cycle after one that left Pause set and the decoder in INIT, Pause is released and `mod` is 1, whatever is received
(R125, R128; that the release is flagged in its own cycle is the spec's decision D23, log 25, and that a recovery in that cycle
keeps the flag is D6, log 22). -/
def Obligations.PauseIsReleasedInTheNextCycle : Prop :=
  ∀ (s : State) (inp : AdvIn), readBit s pauseAddr = true → s.ds = .init →
    ∃ t, exec (.advance inp) s = .next t ∧ readBit t pauseAddr = false ∧ t.mod = true

/-- From INIT, the eight bytes of Pause or the five of Control'd Pause, one validated byte per ADVANCE and every other input
arbitrary, end with the Pause position set, `mod` = 1 and the decoder in INIT (R107, R113, R128; the list of requests is the model's, log 1). -/
def Obligations.PauseSequencesEndWithPauseSet : Prop :=
  ∀ (s : State) (ins : List AdvIn) (rest : List Request), s.ds = .init →
    (ins.map AdvIn.rxByte = pauseBytes ∨ ins.map AdvIn.rxByte = ctrlPauseBytes) →
    (∀ inp ∈ ins, inp.rxValid = true ∧ inp.rxError = false) →
    s.pending = ins.map advanceEdge ++ rest →
    ∃ t, Sys2Proof.core.run ins.length s = .next t ∧ readBit t pauseAddr = true ∧ t.mod = true ∧ t.ds = .init ∧
      t.pending = rest

/-- A debounce commit in the cycle of a Desync comes after the clear: only the buttons pressed in the committed sample end set,
and the host was told to clear (R42, R119, R137 (d); when a commit is due and that it writes both buttons, the unchanged one as
well, are the spec's decisions D9, D10, D11, log 23). -/
def Obligations.ButtonCommitSurvivesARecoveryInTheSameCycle : Prop :=
  ∀ (s : State) (inp : AdvIn), inp.rxValid = true → inp.rxError = false → unexpected s.ds inp.rxByte = true →
    s.dbBusy = true → s.dbRaw = ~~~inp.btnN → s.dbRaw ≠ s.dbStable →
    s.cfg.debounce.val < elapsed inp.tick s.dbT0 →
    ∃ t, exec (.advance inp) s = .next t ∧ Event.hostClear ∈ t.out.events ∧
      ∀ a, readBit t a = ((a == btnAddr0 s.cfg && s.dbRaw.getLsbD 0) || (a == btnAddr1 s.cfg && s.dbRaw.getLsbD 1))

/-- One ADVANCE appends what its byte emits, if it decodes one, and after that at most one motion with its flush (R42, R126,
R131, R135; D20, D21, log 26). -/
def Obligations.AdvanceEmitsItsByteThenItsMotion : Prop :=
  ∀ (s : State) (inp : AdvIn), ∃ t motion, exec (.advance inp) s = .next t ∧
    t.out.events = s.out.events ++
      (if inp.rxValid = true ∧ inp.rxError = false then byteEvents s.ds inp.rxByte inp.hostLed else []) ++ motion ∧
    (motion = [] ∨ ∃ dx dy, motion = [.mouseMotion dx dy 0 0, .mouseFlush])

/-- NOP leaves every state as it is; so do the reserved command codes 6 and 7, and no other code is RESERVED (R54, R129; that the
model runs them instead of refusing them is its own choice, log 8). -/
def Obligations.NopAndReservedCommandsChangeNothing : Prop :=
  ∀ (s : State) (code : BitVec 3) (row : RowIdx) (col : ColIdx) (inp : AdvIn),
    exec .nop s = .next s ∧
    (5 < code.toNat ↔ decode (.cmd code row col inp) = .ok (.reserved code)) ∧
    exec (.reserved code) s = .next s

/-! ### Whole-machine rules -/

/-- Every instruction completes from every state: nothing blocks, nothing aborts (R124, R130; that RESERVED runs
is the model's own choice, log 8). -/
def Obligations.EveryInstructionCompletes : Prop := ∀ (i : Instr) (s : State), ∃ t, exec i s = .next t

/-- `ds` is written only by a decoder transition: not by a command without a validated byte, nor by the matrix operations, the
pseudo-break, the debounce pass or the thumbstick pass (R16). -/
def Obligations.OnlyATransitionWritesTheDecoderState : Prop :=
  ∀ (i : Instr) (s t : State), exec i s = .next t → performsTransition i = false → t.ds = s.ds

/-- The debounce registers are written only by the debounce pass, the thumbstick registers only by the thumbstick pass, alone or
inside ADVANCE; no instruction writes the parameters or the stimulus to come (R17, R18; log 1, log 4). -/
def Obligations.ComponentRegistersHaveOneWriter : Prop :=
  ∀ (i : Instr) (s t : State), exec i s = .next t →
    (t.cfg = s.cfg ∧ t.pending = s.pending) ∧
    ((∀ inp, i ≠ .advance inp) → (∀ n k, i ≠ .debounce n k) →
      t.dbRaw = s.dbRaw ∧ t.dbStable = s.dbStable ∧ t.dbBusy = s.dbBusy ∧ t.dbT0 = s.dbT0) ∧
    ((∀ inp, i ≠ .advance inp) → (∀ vx vy, i ≠ .thumbstick vx vy) → t.tsX = s.tsX ∧ t.tsY = s.tsY)

/-- Reads write no register: NOP, IS_ON, GET_ROW, KEY_COUNT, RESERVED and MAP change output ports at most (R39, R54, R120, R129;
NOP is the spec's decision D2, log 28; that RESERVED runs is the model's own choice, log 8, and so is MAP's result port, log 3). -/
def Obligations.QueriesWriteNoRegister : Prop :=
  ∀ (i : Instr) (s : State), isQuery i = true → ∃ t, exec i s = .next t ∧ t = { s with out := t.out }

/-- `mod` is reset by ADVANCE alone. Any other instruction that changes a position leaves `mod` set, unless it is CLEAR or a
recovery; one that changes no position leaves `mod` as it was (R13; that clearing does not set it is D6, log 22). -/
def Obligations.FlagRecordsEveryTransitionOutsideAdvance : Prop :=
  ∀ (i : Instr) (s t : State), exec i s = .next t → (∀ inp, i ≠ .advance inp) →
    (s.mod = true → t.mod = true) ∧
    (t.x ≠ s.x → t.mod = true ∨ i = .clear ∨ Event.hostClear ∈ t.out.events) ∧
    (t.x = s.x → t.mod = s.mod)

/-- An ADVANCE that ends with `mod` = 0 changed no position, unless it emitted HostClear (R13; D6, D23, log 22, log 25). -/
def Obligations.UnflaggedAdvanceChangedNothingUnlessItRecovered : Prop :=
  ∀ (s t : State) (inp : AdvIn), exec (.advance inp) s = .next t → t.mod = false →
    (∀ a, readBit t a = readBit s a) ∨ Event.hostClear ∈ t.out.events

/-- The transport's byte and error flag do not matter when no byte is available, and the host's LED word only in the two
self-test transitions (R22; 93_implementation_defined.md U10). -/
def Obligations.IgnoredInputsHaveNoEffect : Prop :=
  (∀ (s : State) (inp : AdvIn) (error : Bool) (b led : Byte), inp.rxValid = false →
    exec (.advance { inp with rxError := error, rxByte := b, hostLed := led }) s = exec (.advance inp) s) ∧
  (∀ (s : State) (inp : AdvIn) (led : Byte), ¬(s.ds = .init ∧ (inp.rxByte = 0xAA ∨ inp.rxByte = 0xFC)) →
    exec (.advance { inp with hostLed := led }) s = exec (.advance inp) s)

/-- The analog samples reach only the thumbstick registers and the mouse events: everything else an ADVANCE leaves is the same
for all samples, and the two event lists differ at most in their end, which in each is nothing or one motion with its flush (R122,
R123 (e); the wheel values and the flush are the spec's decision D16, log 24, the order of the events D22, log 26). -/
def Obligations.ThumbstickDoesNotInterfere : Prop :=
  ∀ (s : State) (inp : AdvIn) (vx vy : Sample), ∃ t u common tEnd uEnd,
    exec (.advance inp) s = .next t ∧ exec (.advance { inp with adcX := vx, adcY := vy }) s = .next u ∧
    u = { t with tsX := u.tsX, tsY := u.tsY, out := { t.out with events := u.out.events } } ∧
    t.out.events = common ++ tEnd ∧ u.out.events = common ++ uEnd ∧
    (tEnd = [] ∨ ∃ dx dy, tEnd = [.mouseMotion dx dy 0 0, .mouseFlush]) ∧
    (uEnd = [] ∨ ∃ dx dy, uEnd = [.mouseMotion dx dy 0 0, .mouseFlush])

/-- The two button addresses meet R36 for every configuration, and a configuration is accepted exactly inside the ranges of R8 and
R36, as given (D7, D34; log 4). -/
def Obligations.ConfigurationsAreExactlyTheLegalOnes : Prop :=
  (∀ p : Params, btnAddr0 p ≠ btnAddr1 p ∧ btnAddr0 p ≠ 0xFE ∧ btnAddr1 p ≠ 0xFE ∧
    decoderTouches (btnAddr0 p) = false ∧ decoderTouches (btnAddr1 p) = false) ∧
  (∀ (debounce maxSpeed : Nat) (a0 a1 : MatrixAddr),
    ((∃ p, Params.ofValues? debounce maxSpeed a0 a1 = some p) ↔
      debounce ≤ 65534 ∧ 5 ≤ maxSpeed ∧ maxSpeed ≤ 79 ∧ ((a0 = 0x92 ∧ a1 = 0xD9) ∨ (a0 = 0xD9 ∧ a1 = 0x92))) ∧
    ∀ p, Params.ofValues? debounce maxSpeed a0 a1 = some p →
      p.debounce.val = debounce ∧ p.maxSpeed = maxSpeed ∧ btnAddr0 p = a0 ∧ btnAddr1 p = a1)

/-! ### Steps -/

/-- When a command stands at the port, step is exec of the decoded instruction in the state in which the request is used up and
the outputs are cleared; the same for a byte handed to the decoder, after its log, and for a micro-operation (R21, R51, R67; the
requests are the model's, log 1, log 2, and so are the cleared outputs, log 3, and that the log of a byte is the step's and not
the row's, log 11; that every validated byte is logged, and first, is the spec's decision D21, log 26; the clocked port is D1,
log 29). -/
def Obligations.StepRunsTheDecodedInstruction : Prop :=
  ∀ (s : State) (rest : List Request) (i : Instr),
    (∀ p, s.pending = .edge p :: rest → p.rst = false → p.cmdValid = true →
      decode (.cmd p.cmd p.cmdRow p.cmdCol p.adv) = .ok i →
      step s = exec i { s with pending := rest, out := Outputs.idle }) ∧
    (∀ b led, s.pending = .wire b led :: rest → decode (.wire (wireBits s.ds b) led) = .ok i →
      step s = exec i (State.emitting { s with pending := rest, out := Outputs.idle } [.diag .rx b])) ∧
    (∀ m, s.pending = .micro m :: rest → decode (.micro m) = .ok i →
      step s = exec i { s with pending := rest, out := Outputs.idle })

/-- With no command at the port only the outputs are cleared; with `rst` = 1 the state takes the reset values, whatever the
command, and keeps only its parameters and the stimulus to come (R21, R27, R28, R146; the clocked port is the spec's decision D1,
log 29, and the reset values of all registers but the rows and `ds` are D12, log 21; the cleared outputs are the model's own
choice, log 3, and so are the list of requests, log 1, and what reset keeps, log 15). -/
def Obligations.StepWithoutACommandIdlesOrResets : Prop :=
  ∀ s : State,
    (s.pending = [] → step s = .next { s with out := Outputs.idle }) ∧
    (∀ p rest, s.pending = .edge p :: rest → p.rst = false → p.cmdValid = false →
      step s = .next { s with pending := rest, out := Outputs.idle }) ∧
    (∀ p rest, s.pending = .edge p :: rest → p.rst = true →
      step s = .next { State.reset with cfg := s.cfg, pending := rest })

/-- A step of the hardware always ends in a next state: with only clock edges to come, no refusal is possible, and the parameters
stay as they are (R8, R124, R130, R147; that command codes 6 and 7 run is the model's own choice, log 8, and so are the list of requests,
log 1, log 2, and that a reset edge keeps the parameters, log 15; that no step writes them is deduced, log 4). -/
def Obligations.PortStepsAlwaysComplete : Prop :=
  ∀ s : State, s.portOnly = true → ∃ t, step s = .next t ∧ t.portOnly = true ∧ t.cfg = s.cfg

/-- Reset releases every position, leaves the decoder in INIT, every other register at 0 and nothing emitted (R28, R146; the values
of `mod`, the debounce and the thumbstick registers are the spec's decision D12, log 21). -/
def Obligations.ResetValues : Prop :=
  AllReleased State.reset ∧ State.reset.ds = .init ∧ State.reset.mod = false ∧ State.reset.dbRaw = 0 ∧
    State.reset.dbStable = 0 ∧ State.reset.dbBusy = false ∧ State.reset.dbT0 = 0 ∧ State.reset.tsX = 0 ∧
    State.reset.tsY = 0 ∧ State.reset.out.events = []

/-- The invariant holds at reset (R28, R146; that the debouncer is settled and the thumbstick registers are in range there rests
on the reset values of the spec's decision D12, log 21; that nothing is pending is the model's choice, log 1). -/
def Obligations.InvariantHoldsAtReset : Prop := Inv State.reset

/-- Every step keeps the invariant: only clock edges are to come, address 0x00 is never set, an idle debouncer is settled, the
thumbstick registers stay in range, a set Pause position is flagged with the decoder in INIT (R18, R34, R58, R118, R128; on a
reset edge the debouncer and thumbstick clauses rest on the reset values of the spec's decision D12, log 21, and in an ADVANCE the
clauses rest on D6, D10, D15 and D17, log 22, log 23, log 24; the list of requests and its kinds are the model's, log 1, log 2). -/
def Obligations.EveryStepKeepsTheInvariant : Prop :=
  ∀ s t : State, Inv s → step s = .next t → Inv t
end

