-- ==== Sys2Proof/Laws/State.lean ====
section
/-! SUPPORT. One lemma per field for each update of the state, so that no proof unfolds a record update. -/

namespace Sys2Proof.Machine

@[simp] theorem setMod_x (s : State) : (setMod s).x = s.x := rfl
@[simp] theorem setMod_mod (s : State) : (setMod s).mod = true := rfl
@[simp] theorem setMod_ds (s : State) : (setMod s).ds = s.ds := rfl
@[simp] theorem setMod_dbRaw (s : State) : (setMod s).dbRaw = s.dbRaw := rfl
@[simp] theorem setMod_dbStable (s : State) : (setMod s).dbStable = s.dbStable := rfl
@[simp] theorem setMod_dbBusy (s : State) : (setMod s).dbBusy = s.dbBusy := rfl
@[simp] theorem setMod_dbT0 (s : State) : (setMod s).dbT0 = s.dbT0 := rfl
@[simp] theorem setMod_tsX (s : State) : (setMod s).tsX = s.tsX := rfl
@[simp] theorem setMod_tsY (s : State) : (setMod s).tsY = s.tsY := rfl
@[simp] theorem setMod_cfg (s : State) : (setMod s).cfg = s.cfg := rfl
@[simp] theorem setMod_pending (s : State) : (setMod s).pending = s.pending := rfl
@[simp] theorem setMod_out (s : State) : (setMod s).out = s.out := rfl

@[simp] theorem resetMod_x (s : State) : (resetMod s).x = s.x := rfl
@[simp] theorem resetMod_mod (s : State) : (resetMod s).mod = false := rfl
@[simp] theorem resetMod_ds (s : State) : (resetMod s).ds = s.ds := rfl
@[simp] theorem resetMod_dbRaw (s : State) : (resetMod s).dbRaw = s.dbRaw := rfl
@[simp] theorem resetMod_dbStable (s : State) : (resetMod s).dbStable = s.dbStable := rfl
@[simp] theorem resetMod_dbBusy (s : State) : (resetMod s).dbBusy = s.dbBusy := rfl
@[simp] theorem resetMod_dbT0 (s : State) : (resetMod s).dbT0 = s.dbT0 := rfl
@[simp] theorem resetMod_tsX (s : State) : (resetMod s).tsX = s.tsX := rfl
@[simp] theorem resetMod_tsY (s : State) : (resetMod s).tsY = s.tsY := rfl
@[simp] theorem resetMod_cfg (s : State) : (resetMod s).cfg = s.cfg := rfl
@[simp] theorem resetMod_pending (s : State) : (resetMod s).pending = s.pending := rfl
@[simp] theorem resetMod_out (s : State) : (resetMod s).out = s.out := rfl

@[simp] theorem writeRow_x (s : State) (r : RowIdx) (v : Byte) : (writeRow s r v).x = s.x.set r.toNat v r.isLt := rfl
@[simp] theorem writeRow_mod (s : State) (r : RowIdx) (v : Byte) : (writeRow s r v).mod = s.mod := rfl
@[simp] theorem writeRow_ds (s : State) (r : RowIdx) (v : Byte) : (writeRow s r v).ds = s.ds := rfl
@[simp] theorem writeRow_dbRaw (s : State) (r : RowIdx) (v : Byte) : (writeRow s r v).dbRaw = s.dbRaw := rfl
@[simp] theorem writeRow_dbStable (s : State) (r : RowIdx) (v : Byte) : (writeRow s r v).dbStable = s.dbStable := rfl
@[simp] theorem writeRow_dbBusy (s : State) (r : RowIdx) (v : Byte) : (writeRow s r v).dbBusy = s.dbBusy := rfl
@[simp] theorem writeRow_dbT0 (s : State) (r : RowIdx) (v : Byte) : (writeRow s r v).dbT0 = s.dbT0 := rfl
@[simp] theorem writeRow_tsX (s : State) (r : RowIdx) (v : Byte) : (writeRow s r v).tsX = s.tsX := rfl
@[simp] theorem writeRow_tsY (s : State) (r : RowIdx) (v : Byte) : (writeRow s r v).tsY = s.tsY := rfl
@[simp] theorem writeRow_cfg (s : State) (r : RowIdx) (v : Byte) : (writeRow s r v).cfg = s.cfg := rfl
@[simp] theorem writeRow_pending (s : State) (r : RowIdx) (v : Byte) : (writeRow s r v).pending = s.pending := rfl
@[simp] theorem writeRow_out (s : State) (r : RowIdx) (v : Byte) : (writeRow s r v).out = s.out := rfl

@[simp] theorem clearMatrix_x (s : State) : (clearMatrix s).x = Vector.replicate 32 0 := rfl
@[simp] theorem clearMatrix_mod (s : State) : (clearMatrix s).mod = s.mod := rfl
@[simp] theorem clearMatrix_ds (s : State) : (clearMatrix s).ds = s.ds := rfl
@[simp] theorem clearMatrix_dbRaw (s : State) : (clearMatrix s).dbRaw = s.dbRaw := rfl
@[simp] theorem clearMatrix_dbStable (s : State) : (clearMatrix s).dbStable = s.dbStable := rfl
@[simp] theorem clearMatrix_dbBusy (s : State) : (clearMatrix s).dbBusy = s.dbBusy := rfl
@[simp] theorem clearMatrix_dbT0 (s : State) : (clearMatrix s).dbT0 = s.dbT0 := rfl
@[simp] theorem clearMatrix_tsX (s : State) : (clearMatrix s).tsX = s.tsX := rfl
@[simp] theorem clearMatrix_tsY (s : State) : (clearMatrix s).tsY = s.tsY := rfl
@[simp] theorem clearMatrix_cfg (s : State) : (clearMatrix s).cfg = s.cfg := rfl
@[simp] theorem clearMatrix_pending (s : State) : (clearMatrix s).pending = s.pending := rfl
@[simp] theorem clearMatrix_out (s : State) : (clearMatrix s).out = s.out := rfl

@[simp] theorem setDs_x (d : DecState) (s : State) : (setDs d s).x = s.x := rfl
@[simp] theorem setDs_mod (d : DecState) (s : State) : (setDs d s).mod = s.mod := rfl
@[simp] theorem setDs_ds (d : DecState) (s : State) : (setDs d s).ds = d := rfl
@[simp] theorem setDs_dbRaw (d : DecState) (s : State) : (setDs d s).dbRaw = s.dbRaw := rfl
@[simp] theorem setDs_dbStable (d : DecState) (s : State) : (setDs d s).dbStable = s.dbStable := rfl
@[simp] theorem setDs_dbBusy (d : DecState) (s : State) : (setDs d s).dbBusy = s.dbBusy := rfl
@[simp] theorem setDs_dbT0 (d : DecState) (s : State) : (setDs d s).dbT0 = s.dbT0 := rfl
@[simp] theorem setDs_tsX (d : DecState) (s : State) : (setDs d s).tsX = s.tsX := rfl
@[simp] theorem setDs_tsY (d : DecState) (s : State) : (setDs d s).tsY = s.tsY := rfl
@[simp] theorem setDs_cfg (d : DecState) (s : State) : (setDs d s).cfg = s.cfg := rfl
@[simp] theorem setDs_pending (d : DecState) (s : State) : (setDs d s).pending = s.pending := rfl
@[simp] theorem setDs_out (d : DecState) (s : State) : (setDs d s).out = s.out := rfl

@[simp] theorem emit_x (e : Event) (s : State) : (emit e s).x = s.x := rfl
@[simp] theorem emit_mod (e : Event) (s : State) : (emit e s).mod = s.mod := rfl
@[simp] theorem emit_ds (e : Event) (s : State) : (emit e s).ds = s.ds := rfl
@[simp] theorem emit_dbRaw (e : Event) (s : State) : (emit e s).dbRaw = s.dbRaw := rfl
@[simp] theorem emit_dbStable (e : Event) (s : State) : (emit e s).dbStable = s.dbStable := rfl
@[simp] theorem emit_dbBusy (e : Event) (s : State) : (emit e s).dbBusy = s.dbBusy := rfl
@[simp] theorem emit_dbT0 (e : Event) (s : State) : (emit e s).dbT0 = s.dbT0 := rfl
@[simp] theorem emit_tsX (e : Event) (s : State) : (emit e s).tsX = s.tsX := rfl
@[simp] theorem emit_tsY (e : Event) (s : State) : (emit e s).tsY = s.tsY := rfl
@[simp] theorem emit_cfg (e : Event) (s : State) : (emit e s).cfg = s.cfg := rfl
@[simp] theorem emit_pending (e : Event) (s : State) : (emit e s).pending = s.pending := rfl
@[simp] theorem emit_out (e : Event) (s : State) : (emit e s).out = { s.out with events := s.out.events ++ [e] } := rfl

@[simp] theorem beginCycle_x (s : State) : (beginCycle s).x = s.x := rfl
@[simp] theorem beginCycle_mod (s : State) : (beginCycle s).mod = s.mod := rfl
@[simp] theorem beginCycle_ds (s : State) : (beginCycle s).ds = s.ds := rfl
@[simp] theorem beginCycle_dbRaw (s : State) : (beginCycle s).dbRaw = s.dbRaw := rfl
@[simp] theorem beginCycle_dbStable (s : State) : (beginCycle s).dbStable = s.dbStable := rfl
@[simp] theorem beginCycle_dbBusy (s : State) : (beginCycle s).dbBusy = s.dbBusy := rfl
@[simp] theorem beginCycle_dbT0 (s : State) : (beginCycle s).dbT0 = s.dbT0 := rfl
@[simp] theorem beginCycle_tsX (s : State) : (beginCycle s).tsX = s.tsX := rfl
@[simp] theorem beginCycle_tsY (s : State) : (beginCycle s).tsY = s.tsY := rfl
@[simp] theorem beginCycle_cfg (s : State) : (beginCycle s).cfg = s.cfg := rfl
@[simp] theorem beginCycle_pending (s : State) : (beginCycle s).pending = s.pending.tail := rfl
@[simp] theorem beginCycle_out (s : State) : (beginCycle s).out = { Outputs.idle with events := fetchEvents s.pending } := rfl

end Sys2Proof.Machine
end

