-- ==== Sys2Proof/Laws/Matrix.lean ====
section
/-! SUPPORT. What the matrix operations do, once: read after write, the flag, and the frame. -/

namespace Sys2Proof.Machine

theorem readRow_def (s : State) (r : RowIdx) : readRow s r = s.x[r.toNat]'(r.isLt) := rfl

theorem readBit_def (s : State) (a : MatrixAddr) : readBit s a = (readRow s (rowOf a)).getLsbD (colOf a).toNat := rfl

/-- Reading depends on the rows only. -/
theorem readRow_congr {s t : State} (h : s.x = t.x) (r : RowIdx) : readRow s r = readRow t r := by
  simp [readRow, h]

theorem readBit_congr {s t : State} (h : s.x = t.x) (a : MatrixAddr) : readBit s a = readBit t a := by
  simp [readBit, readRow_congr h]

/-- Read after write of a row. -/
theorem readRow_writeRow (s : State) (r r' : RowIdx) (v : Byte) :
    readRow (writeRow s r v) r' = if r' = r then v else readRow s r' := by
  by_cases h : r' = r
  · subst h; simp [readRow, writeRow]
  · have : r.toNat ≠ r'.toNat := fun e => h (BitVec.eq_of_toNat_eq e.symm)
    simp [readRow, writeRow, h, Vector.getElem_set_ne, this]

theorem addrOf_rowOf_colOf (a : MatrixAddr) : addrOf (rowOf a) (colOf a) = a := by revert a; decide

theorem rowOf_addrOf (r : RowIdx) (c : ColIdx) : rowOf (addrOf r c) = r := by revert r c; decide

theorem colOf_addrOf (r : RowIdx) (c : ColIdx) : colOf (addrOf r c) = c := by revert r c; decide

/-- The address split is a bijection (R30). -/
theorem addr_eq_iff (a b : MatrixAddr) : a = b ↔ rowOf a = rowOf b ∧ colOf a = colOf b :=
  ⟨fun h => by simp [h], fun h => by rw [← addrOf_rowOf_colOf a, ← addrOf_rowOf_colOf b, h.1, h.2]⟩

theorem addr_beq (a b : MatrixAddr) : (a == b) = (rowOf a == rowOf b && colOf a == colOf b) := by
  rw [Bool.eq_iff_iff]; simp [addr_eq_iff a b]

theorem getLsbD_colMask (c c' : ColIdx) : (colMask c).getLsbD c'.toNat = (c' == c) := by revert c c'; decide

theorem getLsbD_or_colMask (v : Byte) (c c' : ColIdx) :
    (v ||| colMask c).getLsbD c'.toNat = (c' == c || v.getLsbD c'.toNat) := by
  rw [BitVec.getLsbD_or, getLsbD_colMask, Bool.or_comm]

theorem getLsbD_and_not_colMask (v : Byte) (c c' : ColIdx) :
    (v &&& ~~~colMask c).getLsbD c'.toNat = (c' != c && v.getLsbD c'.toNat) := by
  have h : c'.toNat < 8 := c'.isLt
  rw [BitVec.getLsbD_and, BitVec.getLsbD_not, getLsbD_colMask, Bool.and_comm, decide_eq_true h, Bool.true_and, bne]

@[simp] theorem readRow_setMod (s : State) (r : RowIdx) : readRow (setMod s) r = readRow s r := rfl

@[simp] theorem readBit_setMod (s : State) (a : MatrixAddr) : readBit (setMod s) a = readBit s a := rfl

@[simp] theorem readBit_resetMod (s : State) (a : MatrixAddr) : readBit (resetMod s) a = readBit s a := rfl

@[simp] theorem readBit_setDs (d : DecState) (s : State) (a : MatrixAddr) : readBit (setDs d s) a = readBit s a := rfl

@[simp] theorem readBit_emit (e : Event) (s : State) (a : MatrixAddr) : readBit (emit e s) a = readBit s a := rfl

@[simp] theorem readBit_beginCycle (s : State) (a : MatrixAddr) : readBit (beginCycle s) a = readBit s a := rfl

/-- The state after `make`, as a frame: only the rows and `mod` can differ. -/
theorem make_frame (a : MatrixAddr) (s : State) :
    make a s = { s with x := (make a s).x, mod := (make a s).mod } := by
  unfold make; split <;> rfl

/-- `make` sets the bit at its address and no other (R61). -/
theorem readBit_make (a : MatrixAddr) (s : State) (a' : MatrixAddr) :
    readBit (make a s) a' = (a' == a || readBit s a') := by
  unfold make
  split
  · by_cases h : a' = a
    · simp_all
    · simp [h]
  · rw [readBit_setMod, readBit_def, readRow_writeRow]
    by_cases h : rowOf a' = rowOf a
    · simp only [h, if_true, getLsbD_or_colMask, addr_beq, readBit_def, beq_self_eq_true, Bool.true_and]
    · simp [h, addr_beq, readBit_def]

/-- `make` flags an actual transition only (R61). -/
theorem make_mod (a : MatrixAddr) (s : State) : (make a s).mod = (s.mod || !readBit s a) := by
  unfold make; split <;> simp_all

/-- The state after `break_`, as a frame. -/
theorem break_frame (a : MatrixAddr) (s : State) :
    break_ a s = { s with x := (break_ a s).x, mod := (break_ a s).mod } := by
  unfold break_; split <;> rfl

/-- `break_` clears the bit at its address and no other (R62). -/
theorem readBit_break (a : MatrixAddr) (s : State) (a' : MatrixAddr) :
    readBit (break_ a s) a' = (a' != a && readBit s a') := by
  unfold break_
  split
  · rw [readBit_setMod, readBit_def, readRow_writeRow]
    by_cases h : rowOf a' = rowOf a
    · simp only [h, if_true, getLsbD_and_not_colMask, addr_beq, readBit_def, bne, beq_self_eq_true, Bool.true_and]
    · simp [h, addr_beq, readBit_def, bne]
  · by_cases h : a' = a
    · simp_all
    · simp [h]

/-- `break_` flags an actual transition only (R62). -/
theorem break_mod (a : MatrixAddr) (s : State) : (break_ a s).mod = (s.mod || readBit s a) := by
  unfold break_; split <;> simp_all

/-- `clear()` releases every position (R63). -/
@[simp] theorem readBit_clearMatrix (s : State) (a : MatrixAddr) : readBit (clearMatrix s) a = false := by
  simp [readBit, readRow, clearMatrix]

/-- Two states with the same bits have the same rows. -/
theorem rows_ext {s t : State} (h : ∀ a, readBit s a = readBit t a) : s.x = t.x := by
  ext i hi
  rename_i j hj
  have := h (addrOf (BitVec.ofNat 5 i) (BitVec.ofNat 3 j))
  simp only [readBit_def, rowOf_addrOf, colOf_addrOf, readRow] at this
  have e1 : (BitVec.ofNat 5 i).toNat = i := by simp; omega
  have e2 : (BitVec.ofNat 3 j).toNat = j := by simp; omega
  simp only [e1, e2] at this
  rw [BitVec.getLsbD_eq_getElem hj, BitVec.getLsbD_eq_getElem hj] at this
  exact this

/-- `make` in one record: the conditional of R61 is a flagged set. -/
theorem make_of_on {a : MatrixAddr} {s : State} (h : readBit s a = true) : make a s = s := by simp [make, h]

theorem break_of_off {a : MatrixAddr} {s : State} (h : readBit s a = false) : break_ a s = s := by simp [break_, h]

@[simp] theorem make_ds (a : MatrixAddr) (s : State) : (make a s).ds = s.ds := by rw [make_frame]
@[simp] theorem make_dbRaw (a : MatrixAddr) (s : State) : (make a s).dbRaw = s.dbRaw := by rw [make_frame]
@[simp] theorem make_dbStable (a : MatrixAddr) (s : State) : (make a s).dbStable = s.dbStable := by rw [make_frame]
@[simp] theorem make_dbBusy (a : MatrixAddr) (s : State) : (make a s).dbBusy = s.dbBusy := by rw [make_frame]
@[simp] theorem make_dbT0 (a : MatrixAddr) (s : State) : (make a s).dbT0 = s.dbT0 := by rw [make_frame]
@[simp] theorem make_tsX (a : MatrixAddr) (s : State) : (make a s).tsX = s.tsX := by rw [make_frame]
@[simp] theorem make_tsY (a : MatrixAddr) (s : State) : (make a s).tsY = s.tsY := by rw [make_frame]
@[simp] theorem make_cfg (a : MatrixAddr) (s : State) : (make a s).cfg = s.cfg := by rw [make_frame]
@[simp] theorem make_pending (a : MatrixAddr) (s : State) : (make a s).pending = s.pending := by rw [make_frame]
@[simp] theorem make_out (a : MatrixAddr) (s : State) : (make a s).out = s.out := by rw [make_frame]

@[simp] theorem break_ds (a : MatrixAddr) (s : State) : (break_ a s).ds = s.ds := by rw [break_frame]
@[simp] theorem break_dbRaw (a : MatrixAddr) (s : State) : (break_ a s).dbRaw = s.dbRaw := by rw [break_frame]
@[simp] theorem break_dbStable (a : MatrixAddr) (s : State) : (break_ a s).dbStable = s.dbStable := by rw [break_frame]
@[simp] theorem break_dbBusy (a : MatrixAddr) (s : State) : (break_ a s).dbBusy = s.dbBusy := by rw [break_frame]
@[simp] theorem break_dbT0 (a : MatrixAddr) (s : State) : (break_ a s).dbT0 = s.dbT0 := by rw [break_frame]
@[simp] theorem break_tsX (a : MatrixAddr) (s : State) : (break_ a s).tsX = s.tsX := by rw [break_frame]
@[simp] theorem break_tsY (a : MatrixAddr) (s : State) : (break_ a s).tsY = s.tsY := by rw [break_frame]
@[simp] theorem break_cfg (a : MatrixAddr) (s : State) : (break_ a s).cfg = s.cfg := by rw [break_frame]
@[simp] theorem break_pending (a : MatrixAddr) (s : State) : (break_ a s).pending = s.pending := by rw [break_frame]
@[simp] theorem break_out (a : MatrixAddr) (s : State) : (break_ a s).out = s.out := by rw [break_frame]

end Sys2Proof.Machine
end

