-- ==== Sys2Proof/Laws/Debouncer.lean ====
section
/-! SUPPORT. What the debounce pass does, once (spec/44_debouncer.md R116). -/

namespace Sys2Proof.Machine

theorem elapsed_self (t : Tick) : elapsed t t = 0 := by simp [elapsed]

theorem btnAddr_ne (p : Params) : btnAddr0 p ≠ btnAddr1 p := by unfold btnAddr0 btnAddr1; split <;> decide

theorem inject_frame (on : Bool) (a : MatrixAddr) (s : State) :
    inject on a s = { s with x := (inject on a s).x, mod := (inject on a s).mod } := by
  unfold inject; split
  · exact make_frame a s
  · exact break_frame a s

theorem readBit_inject (on : Bool) (a : MatrixAddr) (s : State) (a' : MatrixAddr) :
    readBit (inject on a s) a' = if a' = a then on else readBit s a' := by
  unfold inject; split
  · rename_i h; rw [readBit_make]; by_cases e : a' = a <;> simp [e, h]
  · rename_i h; rw [readBit_break]; by_cases e : a' = a <;> simp_all

theorem inject_mod (on : Bool) (a : MatrixAddr) (s : State) :
    (inject on a s).mod = (s.mod || (readBit s a != on)) := by
  unfold inject; split
  · rename_i h; rw [make_mod]; simp [h]
  · rename_i h; rw [break_mod]; simp_all

@[simp] theorem inject_cfg (on : Bool) (a : MatrixAddr) (s : State) : (inject on a s).cfg = s.cfg := by
  rw [inject_frame]

/-- The commit as a frame: only the rows, `mod` and the stable sample can differ. -/
theorem commit_frame (s : State) :
    commit s = { s with x := (commit s).x, mod := (commit s).mod, dbStable := s.dbRaw } := by
  unfold commit
  rw [inject_frame (s.dbRaw.getLsbD 1), inject_frame (s.dbRaw.getLsbD 0)]

/-- The commit writes both button positions and no other (R116). -/
theorem readBit_commit (s : State) (a : MatrixAddr) :
    readBit (commit s) a =
      if a = btnAddr1 s.cfg then s.dbRaw.getLsbD 1
      else if a = btnAddr0 s.cfg then s.dbRaw.getLsbD 0
      else readBit s a := by
  unfold commit
  rw [readBit_inject, readBit_inject]
  rfl

theorem commit_mod (s : State) :
    (commit s).mod =
      (s.mod || (readBit s (btnAddr0 s.cfg) != s.dbRaw.getLsbD 0) || (readBit s (btnAddr1 s.cfg) != s.dbRaw.getLsbD 1)) := by
  unfold commit
  rw [inject_mod, inject_mod, readBit_inject, if_neg (btnAddr_ne s.cfg).symm]
  rfl

/-- Everything a debounce pass can do (R116): see a change, wait, run out with nothing to commit, or commit. -/
theorem debounce_cases (n : BitVec 2) (tick : Tick) (s : State) :
    let t := settle tick (observe (rawButtons n) tick s)
    (rawButtons n ≠ s.dbRaw ∧ t = { s with dbRaw := rawButtons n, dbBusy := true, dbT0 := tick }) ∨
    (rawButtons n = s.dbRaw ∧ expired tick s = false ∧ t = s) ∨
    (rawButtons n = s.dbRaw ∧ expired tick s = true ∧ s.dbRaw = s.dbStable ∧ t = { s with dbBusy := false }) ∨
    (rawButtons n = s.dbRaw ∧ expired tick s = true ∧ s.dbRaw ≠ s.dbStable ∧ t = commit { s with dbBusy := false }) := by
  intro t
  by_cases h : rawButtons n = s.dbRaw
  · have ho : observe (rawButtons n) tick s = s := by simp [observe, h]
    simp only [t, ho, settle]
    by_cases he : expired tick s = true <;> by_cases hr : s.dbRaw = s.dbStable <;> simp [he, hr, h]
  · refine .inl ⟨h, ?_⟩
    have ho : observe (rawButtons n) tick s = { s with dbRaw := rawButtons n, dbBusy := true, dbT0 := tick } := by
      simp [observe, h]
    simp only [t, ho, settle, expired, elapsed_self]
    simp

/-- The pass as a frame: the registers it does not own are as before. -/
theorem debounce_frame (n : BitVec 2) (tick : Tick) (s : State) :
    let t := settle tick (observe (rawButtons n) tick s)
    t = { s with x := t.x, mod := t.mod, dbRaw := t.dbRaw, dbStable := t.dbStable, dbBusy := t.dbBusy, dbT0 := t.dbT0 } := by
  intro t
  rcases debounce_cases n tick s with ⟨-, h⟩ | ⟨-, -, h⟩ | ⟨-, -, -, h⟩ | ⟨-, -, -, h⟩
  · simp only [t, h]
  · simp only [t, h]
  · simp only [t, h]
  · simp only [t, h]; rw [commit_frame]

@[simp] theorem debounce_ds (n : BitVec 2) (tick : Tick) (s : State) :
    (settle tick (observe (rawButtons n) tick s)).ds = s.ds :=
  (congrArg State.ds (debounce_frame n tick s) :)

@[simp] theorem debounce_tsX (n : BitVec 2) (tick : Tick) (s : State) :
    (settle tick (observe (rawButtons n) tick s)).tsX = s.tsX :=
  (congrArg State.tsX (debounce_frame n tick s) :)

@[simp] theorem debounce_tsY (n : BitVec 2) (tick : Tick) (s : State) :
    (settle tick (observe (rawButtons n) tick s)).tsY = s.tsY :=
  (congrArg State.tsY (debounce_frame n tick s) :)

@[simp] theorem debounce_cfg (n : BitVec 2) (tick : Tick) (s : State) :
    (settle tick (observe (rawButtons n) tick s)).cfg = s.cfg :=
  (congrArg State.cfg (debounce_frame n tick s) :)

@[simp] theorem debounce_pending (n : BitVec 2) (tick : Tick) (s : State) :
    (settle tick (observe (rawButtons n) tick s)).pending = s.pending :=
  (congrArg State.pending (debounce_frame n tick s) :)

@[simp] theorem debounce_out (n : BitVec 2) (tick : Tick) (s : State) :
    (settle tick (observe (rawButtons n) tick s)).out = s.out :=
  (congrArg State.out (debounce_frame n tick s) :)

end Sys2Proof.Machine
end

