-- ==== Sys2Proof/Laws/Decoder.lean ====
section
/-! SUPPORT. What a decoder transition does, once: the recoveries, the inversion lemma of `performRow`, and that DECODE
runs the meaning of the selected row. -/

namespace Sys2Proof.Machine

theorem emit_eq_emitting (e : Event) (s : State) : emit e s = s.emitting [e] := rfl

@[simp] theorem emitting_nil (s : State) : s.emitting [] = s := by simp [State.emitting]

@[simp] theorem emitting_emitting (s : State) (es es' : List Event) :
    (s.emitting es).emitting es' = s.emitting (es ++ es') := by simp [State.emitting]

@[simp] theorem readBit_emitting (s : State) (es : List Event) (a : MatrixAddr) :
    readBit (s.emitting es) a = readBit s a := rfl

/-- Desync in one record (R132). -/
theorem raise_desync (b : Byte) (s : State) :
    raise (.desync b) s = { s.emitting [.hostClear, .diag .unexpected b] with x := Vector.replicate 32 0 } := by
  simp [raise, emit, clearMatrix, State.emitting]

/-- Overrun in one record (R133). -/
theorem raise_overrun (s : State) :
    raise .overrun s = { s.emitting [.hostClear, .diag .overrun 0x00] with x := Vector.replicate 32 0 } := by
  simp [raise, emit, clearMatrix, State.emitting]

theorem allReleased_replicate (s : State) (x : State) (h : x.x = Vector.replicate 32 0) : AllReleased x :=
  fun a => by rw [readBit_congr (t := clearMatrix s) h, readBit_clearMatrix]

theorem desync_recovers (d : DecState) (b : Byte) (s : State) :
    RecoversTo d .unexpected b s (setDs d (raise (.desync b) s)) :=
  ⟨allReleased_replicate s _ (by rw [raise_desync]; rfl), by rw [raise_desync]; rfl⟩

theorem overrun_recovers (d : DecState) (s : State) :
    RecoversTo d .overrun 0x00 s (setDs d (raise .overrun s)) :=
  ⟨allReleased_replicate s _ (by rw [raise_overrun]; rfl), by rw [raise_overrun]; rfl⟩

theorem make_onlySets (a : MatrixAddr) (s : State) : OnlySets a s (make a s) := ⟨readBit_make a s, make_mod a s⟩

theorem break_onlyReleases (a : MatrixAddr) (s : State) : OnlyReleases a s (break_ a s) :=
  ⟨readBit_break a s, break_mod a s⟩

theorem make_makesThenInit (a : MatrixAddr) (s : State) : MakesThenInit a s (setDs .init (make a s)) :=
  ⟨make_onlySets a s, by rw [make_frame a s]; rfl⟩

theorem break_breaksThenInit (a : MatrixAddr) (s : State) : BreaksThenInit a s (setDs .init (break_ a s)) :=
  ⟨break_onlyReleases a s, by rw [break_frame a s]; rfl⟩

/-- Everything a transition can do: move the decoder, make or break one position, recover, or report a self-test. -/
inductive RowEffect (s : State) : State → Prop
  | moves (d : DecState) : RowEffect s (setDs d s)
  | makes (a : MatrixAddr) : RowEffect s (setDs .init (make a s))
  | breaks (a : MatrixAddr) : RowEffect s (setDs .init (break_ a s))
  | recovers (d : DecState) (k : DiagKind) (b : Byte) :
      RowEffect s (setDs d { s.emitting [.hostClear, .diag k b] with x := Vector.replicate 32 0 })
  | reports (k : DiagKind) (b led : Byte) : RowEffect s (setDs .init (s.emitting [.diag k b, .setLeds led]))

/-- A transition ends in a next state, by one of the effects above. -/
theorem performRow_effect (d : DecState) (b led : Byte) (s : State) :
    ∃ t, performRow (decodeWire d b led) s = .next t ∧ RowEffect s t := by
  have moves (d' : DecState) : ∃ t, (.next (setDs d' s) : Result) = .next t ∧ RowEffect s t := ⟨_, rfl, .moves d'⟩
  have makes (a : MatrixAddr) : ∃ t, (.next (setDs .init (make a s)) : Result) = .next t ∧ RowEffect s t :=
    ⟨_, rfl, .makes a⟩
  have breaks (a : MatrixAddr) : ∃ t, (.next (setDs .init (break_ a s)) : Result) = .next t ∧ RowEffect s t :=
    ⟨_, rfl, .breaks a⟩
  have desync (d' : DecState) (b' : Byte) :
      ∃ t, (.next (setDs d' (raise (.desync b') s)) : Result) = .next t ∧ RowEffect s t :=
    ⟨_, rfl, by rw [raise_desync]; exact .recovers d' _ _⟩
  have overrun : ∃ t, (.next (setDs .init (raise .overrun s)) : Result) = .next t ∧ RowEffect s t :=
    ⟨_, rfl, by rw [raise_overrun]; exact .recovers .init _ _⟩
  have reports (k : DiagKind) (b' : Byte) :
      ∃ t, (.next (setDs .init (emit (.setLeds led) (emit (.diag k b') s))) : Result) = .next t ∧ RowEffect s t := by
    refine ⟨_, rfl, ?_⟩
    simpa [emit_eq_emitting] using RowEffect.reports (s := s) k b' led
  cases d <;> simp only [decodeWire] <;> split_ifs <;>
    first | exact moves _ | exact makes _ | exact breaks _ | exact desync _ _ | exact overrun | exact reports _ _

/-- A transition as a frame: it writes the rows, `mod`, `ds` and the events at most. -/
theorem RowEffect.frame {s t : State} (h : RowEffect s t) :
    t = { s with x := t.x, mod := t.mod, ds := t.ds, out := { s.out with events := t.out.events } } := by
  cases h with
  | moves => rfl
  | makes a => rw [make_frame]; rfl
  | breaks a => rw [break_frame]; rfl
  | recovers => rfl
  | reports => rfl

/-- What is selected is well formed: a range row only with a byte no earlier row takes (R51). -/
theorem wellFormed_decodeWire (d : DecState) (b led : Byte) : wellFormed (decodeWire d b led) = true := by
  cases d <;> simp only [decodeWire] <;> split_ifs <;> simp_all [wellFormed]

/-- The LED word reaches the two self-test rows only (R74, R75). -/
theorem decodeWire_led {d : DecState} {b : Byte} (h : ¬(d = .init ∧ (b = 0xAA ∨ b = 0xFC))) (led led' : Byte) :
    decodeWire d b led = decodeWire d b led' := by
  cases d <;> simp only [decodeWire] <;> split_ifs <;> simp_all

/-- What is selected is a row whose arm of exec is the same meaning: DECODE runs the selected instruction (R67). -/
theorem exec_decodeWire (d : DecState) (b led : Byte) (s : State) :
    exec (decodeWire d b led) s = performRow (decodeWire d b led) s := by
  cases d <;> simp only [decodeWire] <;> split_ifs <;> rfl

theorem exec_decodeByte (b led : Byte) (s : State) :
    exec (.decodeByte b led) s = exec (decodeWire s.ds b led) (emit (.diag .rx b) s) :=
  (exec_decodeWire _ _ _ _).symm

end Sys2Proof.Machine
end

