-- ==== Sys2Proof/Laws/Thumbstick.lean ====
section
/-! SUPPORT. The range of the mapper and what the thumbstick pass changes (spec/45_thumbstick.md R121, R122). -/

namespace Sys2Proof.Machine

theorem maxSpeed_bounds (p : Params) : 5 ≤ p.maxSpeed ∧ p.maxSpeed ≤ 79 := by
  have := p.maxSpeedOver5.isLt
  unfold Params.maxSpeed
  omega

/-- The mapper by cases of the sample: deadzone, below the centre, above it (R120). -/
theorem mapSample_cases (p : Params) (v : Sample) :
    mapSample p v =
      if 449 ≤ v.toNat ∧ v.toNat ≤ 575 then 0
      else if v.toNat < 512 then -((p.maxSpeed * (512 - v.toNat) / 320 : Nat) : Int)
      else ((p.maxSpeed * (v.toNat - 512) / 320 : Nat) : Int) := by
  unfold mapSample center slop scaleDivisor
  simp only
  by_cases hd : 449 ≤ v.toNat ∧ v.toNat ≤ 575
  · rw [if_pos (by omega), if_pos hd]
  · rw [if_neg (by omega), if_neg hd]
    by_cases hn : v.toNat < 512
    · rw [if_pos (by omega), if_pos hn, show ((v.toNat : Int) - 512).natAbs = 512 - v.toNat by omega]
    · rw [if_neg (by omega), if_neg hn, show ((v.toNat : Int) - 512).natAbs = v.toNat - 512 by omega]

/-- The scaled magnitude is at most 126 (R121). -/
theorem scaled_le (p : Params) {m : Nat} (h : m ≤ 512) : p.maxSpeed * m / 320 ≤ 126 :=
  (Nat.div_le_div_right (Nat.mul_le_mul (maxSpeed_bounds p).2 h)).trans (by decide)

/-- `|map(v)| ≤ 126` (R121). -/
theorem mapSample_range (p : Params) (v : Sample) : -126 ≤ mapSample p v ∧ mapSample p v ≤ 126 := by
  have hv : v.toNat < 1024 := v.isLt
  rw [mapSample_cases]
  split_ifs with h1 h2
  · omega
  · have := scaled_le p (show 512 - v.toNat ≤ 512 by omega)
    omega
  · have := scaled_le p (show v.toNat - 512 ≤ 512 by omega)
    omega

/-- A value in the signed 8-bit range is what its register reads back as. -/
theorem signed8_toInt {v : Int} (h : -128 ≤ v) (h' : v ≤ 127) : (signed8 v).toInt = v := by
  unfold signed8
  rw [BitVec.toInt_ofInt]
  exact Int.bmod_eq_of_le (by norm_num; omega) (by norm_num; omega)

theorem signed8_mapSample (p : Params) (v : Sample) : (signed8 (mapSample p v)).toInt = mapSample p v := by
  have := mapSample_range p v
  exact signed8_toInt (by omega) (by omega)

/-- The pass as a frame: the two registers and the events. -/
theorem thumbstickPass_frame (mx my : Int) (s : State) :
    thumbstickPass mx my s =
      { s with tsX := signed8 mx, tsY := signed8 my, out := { s.out with events := (thumbstickPass mx my s).out.events } } := by
  unfold thumbstickPass report
  split <;> simp [emit]

/-- What a pass emits (R122). -/
theorem thumbstickPass_events (mx my : Int) (s : State) :
    (thumbstickPass mx my s).out.events =
      s.out.events ++
        (if mx ≠ s.tsX.toInt ∨ my ≠ s.tsY.toInt ∨ mx ≠ 0 ∨ my ≠ 0 then
          [.mouseMotion (signed8 mx) (signed8 (-my)) 0 0, .mouseFlush] else []) := by
  unfold thumbstickPass report
  split <;> simp [emit]

@[simp] theorem thumbstickPass_x (mx my : Int) (s : State) : (thumbstickPass mx my s).x = s.x := by
  rw [thumbstickPass_frame]

@[simp] theorem thumbstickPass_mod (mx my : Int) (s : State) : (thumbstickPass mx my s).mod = s.mod := by
  rw [thumbstickPass_frame]

@[simp] theorem thumbstickPass_ds (mx my : Int) (s : State) : (thumbstickPass mx my s).ds = s.ds := by
  rw [thumbstickPass_frame]

@[simp] theorem thumbstickPass_dbRaw (mx my : Int) (s : State) : (thumbstickPass mx my s).dbRaw = s.dbRaw := by
  rw [thumbstickPass_frame]

@[simp] theorem thumbstickPass_dbStable (mx my : Int) (s : State) : (thumbstickPass mx my s).dbStable = s.dbStable := by
  rw [thumbstickPass_frame]

@[simp] theorem thumbstickPass_dbBusy (mx my : Int) (s : State) : (thumbstickPass mx my s).dbBusy = s.dbBusy := by
  rw [thumbstickPass_frame]

@[simp] theorem thumbstickPass_dbT0 (mx my : Int) (s : State) : (thumbstickPass mx my s).dbT0 = s.dbT0 := by
  rw [thumbstickPass_frame]

@[simp] theorem thumbstickPass_cfg (mx my : Int) (s : State) : (thumbstickPass mx my s).cfg = s.cfg := by
  rw [thumbstickPass_frame]

@[simp] theorem thumbstickPass_pending (mx my : Int) (s : State) : (thumbstickPass mx my s).pending = s.pending := by
  rw [thumbstickPass_frame]

@[simp] theorem thumbstickPass_tsX (mx my : Int) (s : State) : (thumbstickPass mx my s).tsX = signed8 mx := rfl

@[simp] theorem thumbstickPass_tsY (mx my : Int) (s : State) : (thumbstickPass mx my s).tsY = signed8 my := rfl

end Sys2Proof.Machine
end

