-- ==== Sys2Proof/Laws/Driver.lean ====
section
/-! SUPPORT. What RECEIVE and ADVANCE do, once (spec/46_driver_loop.md). -/

namespace Sys2Proof.Machine

@[simp] theorem andThen_next (s : State) (f : State → Result) : andThen (.next s) f = f s := rfl

/-- The pseudo-break is an unconditional `break_` of the Pause address (R125). -/
theorem execPseudoBreak_eq (s : State) : execPseudoBreak s = .next (break_ pauseAddr s) := by
  unfold execPseudoBreak
  split
  · rfl
  · rename_i h
    rw [break_of_off (by simpa using h)]

/-- `s` with `rx_take` driven. -/
def taking (valid : Bool) (s : State) : State := { s with out := { s.out with rxTake := valid } }

@[simp] theorem readBit_taking (v : Bool) (s : State) (a : MatrixAddr) : readBit (taking v s) a = readBit s a := rfl

theorem execReceive_noByte (error : Bool) (b led : Byte) (s : State) :
    execReceive false error b led s = .next (taking false s) := rfl

theorem execReceive_error (b led : Byte) (s : State) : execReceive true true b led s = .next (taking true s) := rfl

theorem execReceive_byte (b led : Byte) (s : State) :
    execReceive true false b led s = execDecodeByte b led (taking true s) := rfl

/-- Everything RECEIVE can do: take nothing or drop a byte, or one transition after logging the byte (R126). -/
theorem execReceive_effect (valid error : Bool) (b led : Byte) (s : State) :
    ∃ t, execReceive valid error b led s = .next t ∧
      (((valid && !error) = false ∧ t = taking valid s) ∨
       ((valid && !error) = true ∧ RowEffect (emit (.diag .rx b) (taking true s)) t ∧
          performRow (decodeWire s.ds b led) (emit (.diag .rx b) (taking true s)) = .next t)) := by
  cases valid
  · exact ⟨_, rfl, .inl ⟨rfl, rfl⟩⟩
  · cases error
    · obtain ⟨t, h, he⟩ := performRow_effect s.ds b led (emit (.diag .rx b) (taking true s))
      exact ⟨t, h, .inr ⟨rfl, he, h⟩⟩
    · exact ⟨_, rfl, .inl ⟨rfl, rfl⟩⟩

/-- RECEIVE as a frame: beyond what a transition writes it drives `rx_take`. -/
theorem execReceive_frame {valid error : Bool} {b led : Byte} {s t : State}
    (h : execReceive valid error b led s = .next t) :
    t = { s with
      x := t.x, mod := t.mod, ds := t.ds, out := { s.out with rxTake := t.out.rxTake, events := t.out.events } } := by
  obtain ⟨t', h', e | e⟩ := execReceive_effect valid error b led s <;> (rw [h] at h'; cases h')
  · rw [e.2]; rfl
  · rw [e.2.1.frame]; rfl

/-- ADVANCE after its receive phase: debounce, thumbstick, the liveness code (R124). -/
def afterReceive (inp : AdvIn) (s : State) : State :=
  let t := settle inp.tick (observe (rawButtons inp.btnN) inp.tick s)
  let u := thumbstickPass (mapSample t.cfg inp.adcX) (mapSample t.cfg inp.adcY) t
  { u with out := { u.out with resAlive := livenessCode } }

/-- ADVANCE from what its receive phase answers (R124). -/
theorem execAdvance_of_receive {inp : AdvIn} {s t : State}
    (h : execReceive inp.rxValid inp.rxError inp.rxByte inp.hostLed (break_ pauseAddr (resetMod s)) = .next t) :
    execAdvance inp s = .next (afterReceive inp t) := by
  unfold execAdvance
  rw [execPseudoBreak_eq, andThen_next, h]
  rfl

/-- ADVANCE always ends in a next state, through its phases in order (R124). -/
theorem execAdvance_phases (inp : AdvIn) (s : State) :
    ∃ t, execReceive inp.rxValid inp.rxError inp.rxByte inp.hostLed (break_ pauseAddr (resetMod s)) = .next t ∧
      execAdvance inp s = .next (afterReceive inp t) := by
  obtain ⟨t, h, -⟩ := execReceive_effect inp.rxValid inp.rxError inp.rxByte inp.hostLed (break_ pauseAddr (resetMod s))
  exact ⟨t, h, execAdvance_of_receive h⟩

/-- What the later phases leave alone. -/
@[simp] theorem afterReceive_ds (inp : AdvIn) (s : State) : (afterReceive inp s).ds = s.ds := by
  simp [afterReceive]

@[simp] theorem afterReceive_cfg (inp : AdvIn) (s : State) : (afterReceive inp s).cfg = s.cfg := by
  simp [afterReceive]

@[simp] theorem afterReceive_pending (inp : AdvIn) (s : State) : (afterReceive inp s).pending = s.pending := by
  simp [afterReceive]

/-- The later phases change the rows and `mod` as the debounce pass does (R123 (e)). -/
theorem afterReceive_x (inp : AdvIn) (s : State) :
    (afterReceive inp s).x = (settle inp.tick (observe (rawButtons inp.btnN) inp.tick s)).x := by
  simp [afterReceive]

theorem afterReceive_mod (inp : AdvIn) (s : State) :
    (afterReceive inp s).mod = (settle inp.tick (observe (rawButtons inp.btnN) inp.tick s)).mod := by
  simp [afterReceive]

theorem readBit_afterReceive (inp : AdvIn) (s : State) (a : MatrixAddr) :
    readBit (afterReceive inp s) a = readBit (settle inp.tick (observe (rawButtons inp.btnN) inp.tick s)) a :=
  readBit_congr (afterReceive_x inp s) a

end Sys2Proof.Machine
end

