-- ==== Sys2Proof/Laws/Step.lean ====
section
/-! SUPPORT. What a step is, by the request it finds (spec/10_state.md R21). -/

namespace Sys2Proof.Machine

theorem step_empty {s : State} (h : s.pending = []) : step s = .next (beginCycle s) := by
  simp [step, fetch, h]

theorem step_reset {s : State} {p : PortIn} {rest : List Request} (h : s.pending = .edge p :: rest) (hr : p.rst = true) :
    step s = .next (resetState s) := by
  simp [step, fetch, h, hr]

theorem step_noCommand {s : State} {p : PortIn} {rest : List Request} (h : s.pending = .edge p :: rest)
    (hr : p.rst = false) (hv : p.cmdValid = false) : step s = .next (beginCycle s) := by
  simp [step, fetch, h, hr, hv]

theorem step_command {s : State} {p : PortIn} {rest : List Request} (h : s.pending = .edge p :: rest)
    (hr : p.rst = false) (hv : p.cmdValid = true) :
    step s = exec (decodeCmd p.cmd p.cmdRow p.cmdCol p.adv) (beginCycle s) := by
  simp [step, fetch, h, hr, hv, decode]

theorem ofCode_code (d : DecState) : DecState.ofCode d.code = d := by cases d <;> rfl

/-- The high field of two fields side by side. -/
theorem extractLsb_high {n m : Nat} (x : BitVec n) (y : BitVec m) : (x ++ y).extractLsb' m n = x := by
  ext i hi
  simp only [BitVec.getElem_extractLsb', BitVec.getLsbD_append]
  rw [if_neg (by omega), show m + i - m = i by omega, BitVec.getLsbD_eq_getElem]

/-- The low field of two fields side by side. -/
theorem extractLsb_low {n m : Nat} (x : BitVec n) (y : BitVec m) : (x ++ y).extractLsb' 0 m = y := by
  ext i hi
  simp only [BitVec.getElem_extractLsb', BitVec.getLsbD_append]
  rw [if_pos (by omega), show 0 + i = i by omega, BitVec.getLsbD_eq_getElem]

theorem wireBits_ds (d : DecState) (b : Byte) : (wireBits d b).extractLsb' 8 4 = d.code := extractLsb_high d.code b

theorem wireBits_byte (d : DecState) (b : Byte) : (wireBits d b).extractLsb' 0 8 = b := extractLsb_low d.code b

/-- The decoder reads back the state and the byte of a WIRE word (R51). -/
theorem decode_wireBits (d : DecState) (b led : Byte) :
    decode (.wire (wireBits d b) led) = .ok (decodeWire d b led) := by
  simp [decode, wireBits_ds, wireBits_byte, ofCode_code]

/-- A byte handed to the decoder runs the row that (`ds`, `b`) selects, after the log of R67. -/
theorem step_wire {s : State} {b led : Byte} {rest : List Request} (h : s.pending = .wire b led :: rest) :
    step s = exec (decodeWire s.ds b led) (beginCycle s) := by
  simp [step, fetch, h, decode_wireBits]

end Sys2Proof.Machine
end

