-- ==== Sys2Proof/Laws/PerInstr.lean ====
section
/-! SUPPORT. The round trip, one lemma per constructor: decoding the word of a well-formed instruction gives it back. -/

open Sys2Proof Sys2Proof.Machine

/-- Decoding `encode i` gives `i` with every operand, where `i` is well formed. -/
def Sys2Proof.Laws.RoundTrip.Statement (i : Instr) : Prop := wellFormed i = true → decode (encode i) = .ok i

theorem Sys2Proof.Laws.RoundTrip.initOnE0 : Sys2Proof.Laws.RoundTrip.Statement (.initOnE0) := fun _ => rfl

theorem Sys2Proof.Laws.RoundTrip.initOnF0 : Sys2Proof.Laws.RoundTrip.Statement (.initOnF0) := fun _ => rfl

theorem Sys2Proof.Laws.RoundTrip.initOnE1 : Sys2Proof.Laws.RoundTrip.Statement (.initOnE1) := fun _ => rfl

theorem Sys2Proof.Laws.RoundTrip.initOn83 : Sys2Proof.Laws.RoundTrip.Statement (.initOn83) := fun _ => rfl

theorem Sys2Proof.Laws.RoundTrip.initOn84 : Sys2Proof.Laws.RoundTrip.Statement (.initOn84) := fun _ => rfl

theorem Sys2Proof.Laws.RoundTrip.initOn00 : Sys2Proof.Laws.RoundTrip.Statement (.initOn00) := fun _ => rfl

theorem Sys2Proof.Laws.RoundTrip.initOnAA (led : Byte) : Sys2Proof.Laws.RoundTrip.Statement (.initOnAA led) := fun _ => rfl

theorem Sys2Proof.Laws.RoundTrip.initOnFC (led : Byte) : Sys2Proof.Laws.RoundTrip.Statement (.initOnFC led) := fun _ => rfl

theorem Sys2Proof.Laws.RoundTrip.initOnLow (b : Byte) : Sys2Proof.Laws.RoundTrip.Statement (.initOnLow b) := by
  intro h
  rw [encode, decode_wireBits]
  revert h
  revert b
  decide

theorem Sys2Proof.Laws.RoundTrip.initOnHigh (b : Byte) : Sys2Proof.Laws.RoundTrip.Statement (.initOnHigh b) := by
  intro h
  rw [encode, decode_wireBits]
  revert h
  revert b
  decide

theorem Sys2Proof.Laws.RoundTrip.e0On12 : Sys2Proof.Laws.RoundTrip.Statement (.e0On12) := fun _ => rfl

theorem Sys2Proof.Laws.RoundTrip.e0On59 : Sys2Proof.Laws.RoundTrip.Statement (.e0On59) := fun _ => rfl

theorem Sys2Proof.Laws.RoundTrip.e0On7E : Sys2Proof.Laws.RoundTrip.Statement (.e0On7E) := fun _ => rfl

theorem Sys2Proof.Laws.RoundTrip.e0OnF0 : Sys2Proof.Laws.RoundTrip.Statement (.e0OnF0) := fun _ => rfl

theorem Sys2Proof.Laws.RoundTrip.e0OnLow (b : Byte) : Sys2Proof.Laws.RoundTrip.Statement (.e0OnLow b) := by
  intro h
  rw [encode, decode_wireBits]
  revert h
  revert b
  decide

theorem Sys2Proof.Laws.RoundTrip.e0OnHigh (b : Byte) : Sys2Proof.Laws.RoundTrip.Statement (.e0OnHigh b) := by
  intro h
  rw [encode, decode_wireBits]
  revert h
  revert b
  decide

theorem Sys2Proof.Laws.RoundTrip.f0On83 : Sys2Proof.Laws.RoundTrip.Statement (.f0On83) := fun _ => rfl

theorem Sys2Proof.Laws.RoundTrip.f0On84 : Sys2Proof.Laws.RoundTrip.Statement (.f0On84) := fun _ => rfl

theorem Sys2Proof.Laws.RoundTrip.f0OnF0 : Sys2Proof.Laws.RoundTrip.Statement (.f0OnF0) := fun _ => rfl

theorem Sys2Proof.Laws.RoundTrip.f0OnLow (b : Byte) : Sys2Proof.Laws.RoundTrip.Statement (.f0OnLow b) := by
  intro h
  rw [encode, decode_wireBits]
  revert h
  revert b
  decide

theorem Sys2Proof.Laws.RoundTrip.f0OnHigh (b : Byte) : Sys2Proof.Laws.RoundTrip.Statement (.f0OnHigh b) := by
  intro h
  rw [encode, decode_wireBits]
  revert h
  revert b
  decide

theorem Sys2Proof.Laws.RoundTrip.e0_F0On12 : Sys2Proof.Laws.RoundTrip.Statement (.e0_F0On12) := fun _ => rfl

theorem Sys2Proof.Laws.RoundTrip.e0_F0On59 : Sys2Proof.Laws.RoundTrip.Statement (.e0_F0On59) := fun _ => rfl

theorem Sys2Proof.Laws.RoundTrip.e0_F0OnLow (b : Byte) : Sys2Proof.Laws.RoundTrip.Statement (.e0_F0OnLow b) := by
  intro h
  rw [encode, decode_wireBits]
  revert h
  revert b
  decide

theorem Sys2Proof.Laws.RoundTrip.e0_F0OnHigh (b : Byte) : Sys2Proof.Laws.RoundTrip.Statement (.e0_F0OnHigh b) := by
  intro h
  rw [encode, decode_wireBits]
  revert h
  revert b
  decide

theorem Sys2Proof.Laws.RoundTrip.e1On14 : Sys2Proof.Laws.RoundTrip.Statement (.e1On14) := fun _ => rfl

theorem Sys2Proof.Laws.RoundTrip.e1OnOther (b : Byte) : Sys2Proof.Laws.RoundTrip.Statement (.e1OnOther b) := by
  intro h
  rw [encode, decode_wireBits]
  simp_all [wellFormed, decodeWire]

theorem Sys2Proof.Laws.RoundTrip.e1_14On77 : Sys2Proof.Laws.RoundTrip.Statement (.e1_14On77) := fun _ => rfl

theorem Sys2Proof.Laws.RoundTrip.e1_14OnOther (b : Byte) : Sys2Proof.Laws.RoundTrip.Statement (.e1_14OnOther b) := by
  intro h
  rw [encode, decode_wireBits]
  simp_all [wellFormed, decodeWire]

theorem Sys2Proof.Laws.RoundTrip.e1_14_77OnE1 : Sys2Proof.Laws.RoundTrip.Statement (.e1_14_77OnE1) := fun _ => rfl

theorem Sys2Proof.Laws.RoundTrip.e1_14_77OnOther (b : Byte) : Sys2Proof.Laws.RoundTrip.Statement (.e1_14_77OnOther b) := by
  intro h
  rw [encode, decode_wireBits]
  simp_all [wellFormed, decodeWire]

theorem Sys2Proof.Laws.RoundTrip.e1_14_77_E1OnF0 : Sys2Proof.Laws.RoundTrip.Statement (.e1_14_77_E1OnF0) := fun _ => rfl

theorem Sys2Proof.Laws.RoundTrip.e1_14_77_E1OnOther (b : Byte) : Sys2Proof.Laws.RoundTrip.Statement (.e1_14_77_E1OnOther b) := by
  intro h
  rw [encode, decode_wireBits]
  simp_all [wellFormed, decodeWire]

theorem Sys2Proof.Laws.RoundTrip.e1_14_77_E1_F0On14 : Sys2Proof.Laws.RoundTrip.Statement (.e1_14_77_E1_F0On14) := fun _ => rfl

theorem Sys2Proof.Laws.RoundTrip.e1_14_77_E1_F0OnOther (b : Byte) : Sys2Proof.Laws.RoundTrip.Statement (.e1_14_77_E1_F0OnOther b) := by
  intro h
  rw [encode, decode_wireBits]
  simp_all [wellFormed, decodeWire]

theorem Sys2Proof.Laws.RoundTrip.e1_14_77_E1_F0_14OnF0 : Sys2Proof.Laws.RoundTrip.Statement (.e1_14_77_E1_F0_14OnF0) := fun _ => rfl

theorem Sys2Proof.Laws.RoundTrip.e1_14_77_E1_F0_14OnOther (b : Byte) : Sys2Proof.Laws.RoundTrip.Statement (.e1_14_77_E1_F0_14OnOther b) := by
  intro h
  rw [encode, decode_wireBits]
  simp_all [wellFormed, decodeWire]

theorem Sys2Proof.Laws.RoundTrip.e1_14_77_E1_F0_14_F0On77 : Sys2Proof.Laws.RoundTrip.Statement (.e1_14_77_E1_F0_14_F0On77) := fun _ => rfl

theorem Sys2Proof.Laws.RoundTrip.e1_14_77_E1_F0_14_F0OnOther (b : Byte) : Sys2Proof.Laws.RoundTrip.Statement (.e1_14_77_E1_F0_14_F0OnOther b) := by
  intro h
  rw [encode, decode_wireBits]
  simp_all [wellFormed, decodeWire]

theorem Sys2Proof.Laws.RoundTrip.e0_7EOnE0 : Sys2Proof.Laws.RoundTrip.Statement (.e0_7EOnE0) := fun _ => rfl

theorem Sys2Proof.Laws.RoundTrip.e0_7EOnOther (b : Byte) : Sys2Proof.Laws.RoundTrip.Statement (.e0_7EOnOther b) := by
  intro h
  rw [encode, decode_wireBits]
  simp_all [wellFormed, decodeWire]

theorem Sys2Proof.Laws.RoundTrip.e0_7E_E0OnF0 : Sys2Proof.Laws.RoundTrip.Statement (.e0_7E_E0OnF0) := fun _ => rfl

theorem Sys2Proof.Laws.RoundTrip.e0_7E_E0OnOther (b : Byte) : Sys2Proof.Laws.RoundTrip.Statement (.e0_7E_E0OnOther b) := by
  intro h
  rw [encode, decode_wireBits]
  simp_all [wellFormed, decodeWire]

theorem Sys2Proof.Laws.RoundTrip.e0_7E_E0_F0On7E : Sys2Proof.Laws.RoundTrip.Statement (.e0_7E_E0_F0On7E) := fun _ => rfl

theorem Sys2Proof.Laws.RoundTrip.e0_7E_E0_F0OnOther (b : Byte) : Sys2Proof.Laws.RoundTrip.Statement (.e0_7E_E0_F0OnOther b) := by
  intro h
  rw [encode, decode_wireBits]
  simp_all [wellFormed, decodeWire]

theorem Sys2Proof.Laws.RoundTrip.nop : Sys2Proof.Laws.RoundTrip.Statement (.nop) := fun _ => rfl

theorem Sys2Proof.Laws.RoundTrip.advance (inp : AdvIn) : Sys2Proof.Laws.RoundTrip.Statement (.advance inp) := fun _ => rfl

theorem Sys2Proof.Laws.RoundTrip.clear : Sys2Proof.Laws.RoundTrip.Statement (.clear) := fun _ => rfl

theorem Sys2Proof.Laws.RoundTrip.isOn (row : RowIdx) (col : ColIdx) : Sys2Proof.Laws.RoundTrip.Statement (.isOn row col) := fun _ => rfl

theorem Sys2Proof.Laws.RoundTrip.getRow (row : RowIdx) : Sys2Proof.Laws.RoundTrip.Statement (.getRow row) := fun _ => rfl

theorem Sys2Proof.Laws.RoundTrip.keyCount : Sys2Proof.Laws.RoundTrip.Statement (.keyCount) := fun _ => rfl

theorem Sys2Proof.Laws.RoundTrip.reserved (code : BitVec 3) : Sys2Proof.Laws.RoundTrip.Statement (.reserved code) := by
  revert code; unfold Sys2Proof.Laws.RoundTrip.Statement; decide

theorem Sys2Proof.Laws.RoundTrip.makeKey (a : MatrixAddr) : Sys2Proof.Laws.RoundTrip.Statement (.makeKey a) := fun _ => rfl

theorem Sys2Proof.Laws.RoundTrip.breakKey (a : MatrixAddr) : Sys2Proof.Laws.RoundTrip.Statement (.breakKey a) := fun _ => rfl

theorem Sys2Proof.Laws.RoundTrip.pseudoBreak : Sys2Proof.Laws.RoundTrip.Statement (.pseudoBreak) := fun _ => rfl

theorem Sys2Proof.Laws.RoundTrip.receive (valid : Bool) (error : Bool) (b : Byte) (led : Byte) : Sys2Proof.Laws.RoundTrip.Statement (.receive valid error b led) := by
  intro h
  clear h
  simp only [encode, decode, decodeMicro]
  cases valid <;> cases error <;> simp <;> revert b <;> decide

theorem Sys2Proof.Laws.RoundTrip.decodeByte (b : Byte) (led : Byte) : Sys2Proof.Laws.RoundTrip.Statement (.decodeByte b led) := fun _ => rfl

theorem Sys2Proof.Laws.RoundTrip.debounce (btnN : BitVec 2) (tick : Tick) : Sys2Proof.Laws.RoundTrip.Statement (.debounce btnN tick) := fun _ => by
  simp only [encode, decode, decodeMicro, Except.ok.injEq, Instr.debounce.injEq]
  exact ⟨extractLsb_high btnN tick, extractLsb_low btnN tick⟩

theorem Sys2Proof.Laws.RoundTrip.mapAxis (v : Sample) : Sys2Proof.Laws.RoundTrip.Statement (.mapAxis v) := fun _ => rfl

theorem Sys2Proof.Laws.RoundTrip.thumbstick (vx : Sample) (vy : Sample) : Sys2Proof.Laws.RoundTrip.Statement (.thumbstick vx vy) := fun _ => by
  simp only [encode, decode, decodeMicro, Except.ok.injEq, Instr.thumbstick.injEq]
  exact ⟨extractLsb_high vx vy, extractLsb_low vx vy⟩
end

