-- ==== Sys2Proof/Tests/Slice0.lean ====
section
/-! SUPPORT. Tests. Expected words are written out from spec/30_encoding.md R15, R52, R53 and the `encoding` strings of
opcode_table.json; expected results are those of spec/95_test_vectors.md, whose ids the comments name, or of the example of
the rule named. The `witness_` theorems show that the premises of the statements can be met, clause by clause. -/

namespace Sys2Proof.Tests

open Sys2Proof Sys2Proof.Machine

/-- A matrix with the listed rows, every other row 0x00. -/
def rows (l : List (Fin 32 × Byte)) : Vector Byte 32 := l.foldl (fun v p => v.set p.1.val p.2) (Vector.replicate 32 0)

/-- Reset, with `MAX_SPEED` = 10, as the vectors have it. -/
def base : State := { State.reset with cfg := ⟨5, 5, false⟩ }

/-- In state `d`, with `x[3]` = 0x10. -/
def held (d : DecState) : State := { base with ds := d, x := rows [(3, 0x10)] }

/-- `r` is a next state that meets `p`. -/
def answers (r : Result) (p : State → Bool) : Bool :=
  match r with
  | .next t => p t
  | .fault _ => false
  | .refused _ => false

/-- Matrix, decoder state, flag and events. -/
def looks (l : List (Fin 32 × Byte)) (d : DecState) (m : Bool) (es : List Event) (t : State) : Bool :=
  t.x == rows l && t.ds == d && t.mod == m && t.out.events == es

/-- The debounce registers. -/
def debounces (raw stable : BitVec 2) (busy : Bool) (t0 : Tick) (t : State) : Bool :=
  t.dbRaw == raw && t.dbStable == stable && t.dbBusy == busy && t.dbT0 == t0

/-- `s` after the first `n` of the requests `l`. -/
def after (n : Nat) (l : List Request) (s : State) : Result :=
  match Sys2Proof.core.run n { s with pending := l } with
  | .next t => .next t
  | .fault e => .fault e
  | .refused e => .refused e

/-! ### WellFormed refuses an ill-formed term of each check -/

theorem test_wellFormed_refuses_bytes_of_earlier_rows :
    wellFormed (.initOnLow 0x00) = false ∧ wellFormed (.initOnLow 0x80) = false ∧ wellFormed (.initOnHigh 0x7F) = false ∧
    wellFormed (.initOnHigh 0xE0) = false ∧ wellFormed (.initOnHigh 0xF0) = false ∧ wellFormed (.initOnHigh 0xE1) = false ∧
    wellFormed (.initOnHigh 0x83) = false ∧ wellFormed (.initOnHigh 0x84) = false ∧ wellFormed (.initOnHigh 0xAA) = false ∧
    wellFormed (.initOnHigh 0xFC) = false ∧ wellFormed (.e0OnLow 0x12) = false ∧ wellFormed (.e0OnLow 0x59) = false ∧
    wellFormed (.e0OnLow 0x7E) = false ∧ wellFormed (.e0OnLow 0x80) = false ∧ wellFormed (.e0OnHigh 0xF0) = false ∧
    wellFormed (.e0OnHigh 0x7F) = false ∧ wellFormed (.f0OnLow 0x80) = false ∧ wellFormed (.f0OnHigh 0x83) = false ∧
    wellFormed (.f0OnHigh 0x84) = false ∧ wellFormed (.f0OnHigh 0xF0) = false ∧ wellFormed (.f0OnHigh 0x7F) = false ∧
    wellFormed (.e0_F0OnLow 0x12) = false ∧ wellFormed (.e0_F0OnLow 0x59) = false ∧ wellFormed (.e0_F0OnLow 0x80) = false ∧
    wellFormed (.e0_F0OnHigh 0x7F) = false := by decide

theorem test_wellFormed_refuses_expected_bytes_and_assigned_codes :
    wellFormed (.e1OnOther 0x14) = false ∧ wellFormed (.e1_14OnOther 0x77) = false ∧
    wellFormed (.e1_14_77OnOther 0xE1) = false ∧ wellFormed (.e1_14_77_E1OnOther 0xF0) = false ∧
    wellFormed (.e1_14_77_E1_F0OnOther 0x14) = false ∧ wellFormed (.e1_14_77_E1_F0_14OnOther 0xF0) = false ∧
    wellFormed (.e1_14_77_E1_F0_14_F0OnOther 0x77) = false ∧ wellFormed (.e0_7EOnOther 0xE0) = false ∧
    wellFormed (.e0_7E_E0OnOther 0xF0) = false ∧ wellFormed (.e0_7E_E0_F0OnOther 0x7E) = false ∧
    wellFormed (.reserved 5) = false := by decide

/-! ### Decoding: every constructor from a word written out from the spec -/

theorem test_decode_init :
    decode (.wire 0b0000_11100000 0) = .ok .initOnE0 ∧ decode (.wire 0b0000_11110000 0) = .ok .initOnF0 ∧
    decode (.wire 0b0000_11100001 0) = .ok .initOnE1 ∧ decode (.wire 0b0000_10000011 0) = .ok .initOn83 ∧
    decode (.wire 0b0000_10000100 0) = .ok .initOn84 ∧ decode (.wire 0b0000_00000000 0) = .ok .initOn00 ∧
    decode (.wire 0b0000_10101010 0x05) = .ok (.initOnAA 0x05) ∧
    decode (.wire 0b0000_11111100 0x05) = .ok (.initOnFC 0x05) ∧
    decode (.wire 0b0000_00011100 0) = .ok (.initOnLow 0x1C) ∧
    decode (.wire 0b0000_11111010 0) = .ok (.initOnHigh 0xFA) := by decide

theorem test_decode_e0_f0 :
    decode (.wire 0b0001_00010010 0) = .ok .e0On12 ∧ decode (.wire 0b0001_01011001 0) = .ok .e0On59 ∧
    decode (.wire 0b0001_01111110 0) = .ok .e0On7E ∧ decode (.wire 0b0001_11110000 0) = .ok .e0OnF0 ∧
    decode (.wire 0b0001_01110101 0) = .ok (.e0OnLow 0x75) ∧ decode (.wire 0b0001_11100000 0) = .ok (.e0OnHigh 0xE0) ∧
    decode (.wire 0b0010_10000011 0) = .ok .f0On83 ∧ decode (.wire 0b0010_10000100 0) = .ok .f0On84 ∧
    decode (.wire 0b0010_11110000 0) = .ok .f0OnF0 ∧ decode (.wire 0b0010_00010010 0) = .ok (.f0OnLow 0x12) ∧
    decode (.wire 0b0010_11100000 0) = .ok (.f0OnHigh 0xE0) ∧ decode (.wire 0b0011_00010010 0) = .ok .e0_F0On12 ∧
    decode (.wire 0b0011_01011001 0) = .ok .e0_F0On59 ∧ decode (.wire 0b0011_01111110 0) = .ok (.e0_F0OnLow 0x7E) ∧
    decode (.wire 0b0011_10000011 0) = .ok (.e0_F0OnHigh 0x83) := by decide

theorem test_decode_pause :
    decode (.wire 0b0100_00010100 0) = .ok .e1On14 ∧ decode (.wire 0b0100_00011100 0) = .ok (.e1OnOther 0x1C) ∧
    decode (.wire 0b0101_01110111 0) = .ok .e1_14On77 ∧ decode (.wire 0b0101_11110000 0) = .ok (.e1_14OnOther 0xF0) ∧
    decode (.wire 0b0110_11100001 0) = .ok .e1_14_77OnE1 ∧
    decode (.wire 0b0110_11111111 0) = .ok (.e1_14_77OnOther 0xFF) ∧
    decode (.wire 0b0111_11110000 0) = .ok .e1_14_77_E1OnF0 ∧
    decode (.wire 0b0111_00000000 0) = .ok (.e1_14_77_E1OnOther 0x00) ∧
    decode (.wire 0b1000_00010100 0) = .ok .e1_14_77_E1_F0On14 ∧
    decode (.wire 0b1000_01110111 0) = .ok (.e1_14_77_E1_F0OnOther 0x77) ∧
    decode (.wire 0b1001_11110000 0) = .ok .e1_14_77_E1_F0_14OnF0 ∧
    decode (.wire 0b1001_11100001 0) = .ok (.e1_14_77_E1_F0_14OnOther 0xE1) ∧
    decode (.wire 0b1010_01110111 0) = .ok .e1_14_77_E1_F0_14_F0On77 ∧
    decode (.wire 0b1010_11111010 0) = .ok (.e1_14_77_E1_F0_14_F0OnOther 0xFA) := by decide

theorem test_decode_ctrl_pause :
    decode (.wire 0b1011_11100000 0) = .ok .e0_7EOnE0 ∧ decode (.wire 0b1011_00011100 0) = .ok (.e0_7EOnOther 0x1C) ∧
    decode (.wire 0b1100_11110000 0) = .ok .e0_7E_E0OnF0 ∧
    decode (.wire 0b1100_01110101 0) = .ok (.e0_7E_E0OnOther 0x75) ∧
    decode (.wire 0b1101_01111110 0) = .ok .e0_7E_E0_F0On7E ∧
    decode (.wire 0b1101_01110101 0) = .ok (.e0_7E_E0_F0OnOther 0x75) := by decide

theorem test_decode_commands (inp : AdvIn) :
    decode (.cmd 0b000 0 0 inp) = .ok .nop ∧ decode (.cmd 0b001 0 0 inp) = .ok (.advance inp) ∧
    decode (.cmd 0b010 0 0 inp) = .ok .clear ∧ decode (.cmd 0b011 0b11110 0b101 inp) = .ok (.isOn 30 5) ∧
    decode (.cmd 0b100 0b00011 0 inp) = .ok (.getRow 3) ∧ decode (.cmd 0b101 0 0 inp) = .ok .keyCount ∧
    decode (.cmd 0b110 0 0 inp) = .ok (.reserved 6) ∧ decode (.cmd 0b111 0 0 inp) = .ok (.reserved 7) :=
  ⟨rfl, rfl, rfl, rfl, rfl, rfl, rfl, rfl⟩

theorem test_decode_micro :
    decode (.micro (.makeKey 0b00011100)) = .ok (.makeKey 0x1C) ∧
    decode (.micro (.breakKey 0b10000011)) = .ok (.breakKey 0x83) ∧
    decode (.micro (.pseudoBreak 0b11111110)) = .ok .pseudoBreak ∧
    decode (.micro (.receive 0b11_00011100 0)) = .ok (.receive true true 0x1C 0) ∧
    decode (.micro (.receive 0b10_00011100 0x07)) = .ok (.receive true false 0x1C 0x07) ∧
    decode (.micro (.decodeByte 0b11110000 0)) = .ok (.decodeByte 0xF0 0) ∧
    decode (.micro (.debounce 0b01_0000000000010000)) = .ok (.debounce 0b01 16) ∧
    decode (.micro (.mapAxis 0b1111111111)) = .ok (.mapAxis 1023) ∧
    decode (.micro (.thumbstick 0b1111111111_0000000000)) = .ok (.thumbstick 1023 0) := by decide

theorem test_decode_rejects_by_name :
    decode (.micro (.pseudoBreak 0xFF)) = .error (.pseudoBreakPattern 0xFF) ∧
    decode (.unformatted 16 4096) = .error (.noFormat 16 4096) := by decide

theorem test_table_words :
    decodeTableWord 16 0x175 = some (.e0OnLow 0x75) ∧ decodeTableWord 8 4 = some (.getRow 0) ∧
    decodeTableWord 8 0xFE = some .pseudoBreak ∧ decodeTableWord 24 0 = none := by decide

/-! ### The decoder's rows -/

/-- V-I1 to V-I8, the part after the log of the byte. -/
theorem test_init_exact_rows :
    answers (exec .initOnE0 (held .init)) (looks [(3, 0x10)] .e0 false []) = true ∧
    answers (exec .initOnF0 (held .init)) (looks [(3, 0x10)] .f0 false []) = true ∧
    answers (exec .initOnE1 (held .init)) (looks [(3, 0x10)] .e1 false []) = true ∧
    answers (exec .initOn83 (held .init)) (looks [(3, 0x10), (16, 0x08)] .init true []) = true ∧
    answers (exec .initOn84 (held .init)) (looks [(3, 0x10), (31, 0x10)] .init true []) = true ∧
    answers (exec .initOn00 (held .init)) (looks [] .init false [.hostClear, .diag .overrun 0x00]) = true ∧
    answers (exec (.initOnAA 0x05) (held .init))
      (looks [(3, 0x10)] .init false [.diag .selftestPass 0xAA, .setLeds 0x05]) = true ∧
    answers (exec (.initOnFC 0x05) (held .init))
      (looks [(3, 0x10)] .init false [.diag .selftestFail 0xFC, .setLeds 0x05]) = true := by decide +kernel

/-- V-I9, V-I10, V-I11, V-I13, V-I15. -/
theorem test_init_range_rows :
    answers (exec (.initOnLow 0x1D) (held .init)) (looks [(3, 0x30)] .init true []) = true ∧
    answers (exec (.initOnLow 0x1C) (held .init)) (looks [(3, 0x10)] .init false []) = true ∧
    answers (exec (.initOnLow 0x12) (held .init)) (looks [(2, 0x04), (3, 0x10)] .init true []) = true ∧
    answers (exec (.initOnHigh 0x80) (held .init)) (looks [] .init false [.hostClear, .diag .unexpected 0x80]) = true ∧
    answers (exec (.initOnHigh 0xFF) (held .init)) (looks [] .init false [.hostClear, .diag .unexpected 0xFF]) = true := by
  decide +kernel

/-- V-P1 to V-P6, V-P8, V-P10, V-P11, their last byte. -/
theorem test_e0_rows :
    answers (exec .e0On12 (held .e0)) (looks [(3, 0x10)] .init false []) = true ∧
    answers (exec .e0On59 (held .e0)) (looks [(3, 0x10)] .init false []) = true ∧
    answers (exec .e0On7E (held .e0)) (looks [(3, 0x10)] .e0_7E false []) = true ∧
    answers (exec .e0OnF0 (held .e0)) (looks [(3, 0x10)] .e0_F0 false []) = true ∧
    answers (exec (.e0OnLow 0x75) (held .e0)) (looks [(3, 0x10), (30, 0x20)] .init true []) = true ∧
    answers (exec (.e0OnLow 0x00) (held .e0)) (looks [(3, 0x10), (16, 0x01)] .init true []) = true ∧
    answers (exec (.e0OnHigh 0xE0) (held .e0)) (looks [] .init false [.hostClear, .diag .unexpected 0xE0]) = true := by
  decide +kernel

/-- V-P13, V-P14, V-P16, V-P19, V-P22, V-P23, their last byte. -/
theorem test_f0_rows :
    answers (exec .f0On83 { held .f0 with x := rows [(16, 0x08)] }) (looks [] .init true []) = true ∧
    answers (exec .f0On84 { held .f0 with x := rows [(31, 0x10)] }) (looks [] .init true []) = true ∧
    answers (exec .f0OnF0 (held .f0)) (looks [] .f0 false [.hostClear, .diag .unexpected 0xF0]) = true ∧
    answers (exec (.f0OnLow 0x1C) (held .f0)) (looks [] .init true []) = true ∧
    answers (exec (.f0OnLow 0x00) (held .f0)) (looks [(3, 0x10)] .init false []) = true ∧
    answers (exec (.f0OnHigh 0xE0) (held .f0)) (looks [] .init false [.hostClear, .diag .unexpected 0xE0]) = true := by
  decide +kernel

/-- V-P26 to V-P29, V-P32, their last byte. -/
theorem test_e0_f0_rows :
    answers (exec .e0_F0On12 (held .e0_F0)) (looks [(3, 0x10)] .init false []) = true ∧
    answers (exec .e0_F0On59 (held .e0_F0)) (looks [(3, 0x10)] .init false []) = true ∧
    answers (exec (.e0_F0OnLow 0x75) { held .e0_F0 with x := rows [(30, 0x20)] }) (looks [] .init true []) = true ∧
    answers (exec (.e0_F0OnLow 0x7C) { held .e0_F0 with x := rows [(31, 0x10)] }) (looks [] .init true []) = true ∧
    answers (exec (.e0_F0OnHigh 0x83) (held .e0_F0)) (looks [] .init false [.hostClear, .diag .unexpected 0x83]) = true := by
  decide +kernel

/-- The next states of R95, R97, R99, R101, R103, R105, R109, R111 and the make of R107, R113. -/
theorem test_chain_expected_rows :
    answers (exec .e1On14 (held .e1)) (looks [(3, 0x10)] .e1_14 false []) = true ∧
    answers (exec .e1_14On77 (held .e1_14)) (looks [(3, 0x10)] .e1_14_77 false []) = true ∧
    answers (exec .e1_14_77OnE1 (held .e1_14_77)) (looks [(3, 0x10)] .e1_14_77_E1 false []) = true ∧
    answers (exec .e1_14_77_E1OnF0 (held .e1_14_77_E1)) (looks [(3, 0x10)] .e1_14_77_E1_F0 false []) = true ∧
    answers (exec .e1_14_77_E1_F0On14 (held .e1_14_77_E1_F0)) (looks [(3, 0x10)] .e1_14_77_E1_F0_14 false []) = true ∧
    answers (exec .e1_14_77_E1_F0_14OnF0 (held .e1_14_77_E1_F0_14))
      (looks [(3, 0x10)] .e1_14_77_E1_F0_14_F0 false []) = true ∧
    answers (exec .e1_14_77_E1_F0_14_F0On77 (held .e1_14_77_E1_F0_14_F0))
      (looks [(3, 0x10), (31, 0x40)] .init true []) = true ∧
    answers (exec .e0_7EOnE0 (held .e0_7E)) (looks [(3, 0x10)] .e0_7E_E0 false []) = true ∧
    answers (exec .e0_7E_E0OnF0 (held .e0_7E_E0)) (looks [(3, 0x10)] .e0_7E_E0_F0 false []) = true ∧
    answers (exec .e0_7E_E0_F0On7E (held .e0_7E_E0_F0)) (looks [(3, 0x10), (31, 0x40)] .init true []) = true := by
  decide +kernel

/-- V-C7, V-C9 to V-C11, V-C13 to V-C15 and R100, R102, R104, R106: the byte is swallowed. -/
theorem test_chain_other_rows :
    answers (exec (.e1OnOther 0xFA) (held .e1)) (looks [(3, 0x10)] .init false []) = true ∧
    answers (exec (.e1_14OnOther 0xF0) (held .e1_14)) (looks [(3, 0x10)] .init false []) = true ∧
    answers (exec (.e1_14_77OnOther 0x1C) (held .e1_14_77)) (looks [(3, 0x10)] .init false []) = true ∧
    answers (exec (.e1_14_77_E1OnOther 0x00) (held .e1_14_77_E1)) (looks [(3, 0x10)] .init false []) = true ∧
    answers (exec (.e1_14_77_E1_F0OnOther 0x77) (held .e1_14_77_E1_F0)) (looks [(3, 0x10)] .init false []) = true ∧
    answers (exec (.e1_14_77_E1_F0_14OnOther 0xE1) (held .e1_14_77_E1_F0_14)) (looks [(3, 0x10)] .init false []) = true ∧
    answers (exec (.e1_14_77_E1_F0_14_F0OnOther 0xFA) (held .e1_14_77_E1_F0_14_F0))
      (looks [(3, 0x10)] .init false []) = true ∧
    answers (exec (.e0_7EOnOther 0x1C) (held .e0_7E)) (looks [(3, 0x10)] .init false []) = true ∧
    answers (exec (.e0_7E_E0OnOther 0x75) (held .e0_7E_E0)) (looks [(3, 0x10)] .init false []) = true ∧
    answers (exec (.e0_7E_E0_F0OnOther 0x75) (held .e0_7E_E0_F0)) (looks [(3, 0x10)] .init false []) = true := by
  decide +kernel

/-! ### Commands and micro-operations -/

/-- V-M1 to V-M3. -/
theorem test_make :
    answers (exec (.makeKey 0x1C) base) (looks [(3, 0x10)] .init true []) = true ∧
    answers (exec (.makeKey 0x1C) (held .init)) (looks [(3, 0x10)] .init false []) = true ∧
    answers (exec (.makeKey 0x1D) (held .init)) (looks [(3, 0x30)] .init true []) = true := by decide +kernel

/-- V-M4, V-M5. -/
theorem test_break :
    answers (exec (.breakKey 0x1C) { base with x := rows [(3, 0x30)] }) (looks [(3, 0x20)] .init true []) = true ∧
    answers (exec (.breakKey 0x1C) { base with x := rows [(3, 0x20)] }) (looks [(3, 0x20)] .init false []) = true := by
  decide +kernel

/-- V-M6, V-M13. -/
theorem test_clear :
    answers (exec .clear { base with x := rows [(3, 0x30), (30, 0x20)], mod := true }) (looks [] .init true []) = true ∧
    answers (exec .clear { held .f0 with mod := true }) (looks [] .f0 true []) = true := by decide +kernel

/-- V-M8 to V-M12. -/
theorem test_reads :
    answers (exec (.isOn 3 4) { base with x := rows [(3, 0x30), (30, 0x20)] }) (fun t => t.out.resBit) = true ∧
    answers (exec (.isOn 3 3) { base with x := rows [(3, 0x30), (30, 0x20)] }) (fun t => !t.out.resBit) = true ∧
    answers (exec (.getRow 3) { base with x := rows [(3, 0x30), (30, 0x20)] }) (fun t => t.out.resRow == 0x30) = true ∧
    answers (exec (.getRow 4) { base with x := rows [(3, 0x30), (30, 0x20)] }) (fun t => t.out.resRow == 0x00) = true ∧
    answers (exec .keyCount { base with x := rows [(3, 0x30), (30, 0x20)] }) (fun t => t.out.resCount == 3) = true ∧
    answers (exec .keyCount { base with x := Vector.replicate 32 0xFF }) (fun t => t.out.resCount == 256) = true := by
  decide +kernel

/-- The example of R125. -/
theorem test_pseudoBreak :
    answers (exec .pseudoBreak { base with x := rows [(31, 0x50)] }) (looks [(31, 0x10)] .init true []) = true ∧
    answers (exec .pseudoBreak (held .e0)) (looks [(3, 0x10)] .e0 false []) = true := by decide +kernel

/-- The example of R126 and V-I9. -/
theorem test_receive :
    answers (exec (.receive true true 0x1C 0) (held .f0))
      (fun t => looks [(3, 0x10)] .f0 false [] t && t.out.rxTake) = true ∧
    answers (exec (.receive true false 0x1D 0) (held .init))
      (fun t => looks [(3, 0x30)] .init true [.diag .rx 0x1D] t && t.out.rxTake) = true ∧
    answers (exec (.receive false false 0x1D 0) (held .init))
      (fun t => looks [(3, 0x10)] .init false [] t && !t.out.rxTake) = true := by decide +kernel

/-- V-I14 and V-C11. -/
theorem test_decodeByte :
    answers (exec (.decodeByte 0xFA 0) (held .init))
      (looks [] .init false [.diag .rx 0xFA, .hostClear, .diag .unexpected 0xFA]) = true ∧
    answers (exec (.decodeByte 0xFA 0) (held .e1)) (looks [(3, 0x10)] .init false [.diag .rx 0xFA]) = true := by
  decide +kernel

/-- V-D1, its lines 2 and 3: elapsed 5 does not commit, elapsed 6 does; the pins are active low. -/
theorem test_debounce_commit :
    answers (exec (.debounce 0b10 15) { base with dbRaw := 0b01, dbBusy := true, dbT0 := 10 })
      (fun t => debounces 0b01 0b00 true 10 t && looks [] .init false [] t) = true ∧
    answers (exec (.debounce 0b10 16) { base with dbRaw := 0b01, dbBusy := true, dbT0 := 10 })
      (fun t => debounces 0b01 0b01 false 10 t && looks [(18, 0x04)] .init true [] t) = true := by decide +kernel

/-- V-D2, its lines 2 and 4, and V-D3, its line 3: a revert restarts the timer and never commits; the tick wraps. -/
theorem test_debounce_revert_and_wrap :
    answers (exec (.debounce 0b11 12) { base with dbRaw := 0b01, dbBusy := true, dbT0 := 10 })
      (debounces 0b00 0b00 true 12) = true ∧
    answers (exec (.debounce 0b11 18) { base with dbBusy := true, dbT0 := 12 })
      (fun t => debounces 0b00 0b00 false 12 t && looks [] .init false [] t) = true ∧
    answers (exec (.debounce 0b01 3) { base with dbRaw := 0b10, dbBusy := true, dbT0 := 65533 })
      (fun t => debounces 0b10 0b10 false 65533 t && looks [(27, 0x02)] .init true [] t) = true := by decide +kernel

/-- The examples of R120. -/
theorem test_map :
    answers (exec (.mapAxis 1023) base) (fun t => t.out.resMap == 15) = true ∧
    answers (exec (.mapAxis 0) base) (fun t => t.out.resMap == -16) = true ∧
    answers (exec (.mapAxis 576) base) (fun t => t.out.resMap == 2) = true ∧
    answers (exec (.mapAxis 448) base) (fun t => t.out.resMap == -2) = true ∧
    answers (exec (.mapAxis 575) base) (fun t => t.out.resMap == 0) = true ∧
    answers (exec (.mapAxis 449) base) (fun t => t.out.resMap == 0) = true := by decide +kernel

/-- The example of R122 and R123 (a), (c). -/
theorem test_thumbstick :
    answers (exec (.thumbstick 1023 0) base) (fun t => t.tsX == 15 && t.tsY == -16 &&
      t.out.events == [.mouseMotion 15 16 0 0, .mouseFlush]) = true ∧
    answers (exec (.thumbstick 512 512) base) (fun t => t.out.events == []) = true ∧
    answers (exec (.thumbstick 512 512) { base with tsX := 15 }) (fun t => t.tsX == 0 &&
      t.out.events == [.mouseMotion 0 0 0 0, .mouseFlush]) = true := by decide +kernel

/-- The example of R124. -/
theorem test_advance :
    answers (exec (.advance (advInOf (.byte 0x1C) 0b01 1023 512 0 0)) base) (fun t =>
      looks [(3, 0x10)] .init true [.diag .rx 0x1C, .mouseMotion 15 0 0 0, .mouseFlush] t &&
      debounces 0b01 0b00 true 0 t && t.out.resAlive == 0x01 && t.out.rxTake) = true := by decide +kernel

/-- R42 and R137 (d): the commit of the same cycle survives the clear. -/
theorem test_advance_recovery_then_commit :
    answers (exec (.advance (advInOf (.byte 0x80) 0b01 512 512 16 0))
        { held .init with dbRaw := 0b01, dbBusy := true, dbT0 := 10 })
      (looks [(18, 0x04)] .init true [.diag .rx 0x80, .hostClear, .diag .unexpected 0x80]) = true := by decide +kernel

/-- R129 and R54. -/
theorem test_nop_and_reserved :
    answers (exec .nop { held .f0 with mod := true }) (looks [(3, 0x10)] .f0 true []) = true ∧
    answers (exec (.reserved 6) { held .f0 with mod := true }) (looks [(3, 0x10)] .f0 true []) = true := by decide +kernel

/-! ### Steps, stimulus and ports -/

/-- V-C5 and the pulse of R128: `CPAUSE`, then `IDLE`. -/
theorem test_run_ctrl_pause :
    answers (after 5 (assemble 0 (ctrlPauseLines ++ [idleLine])) base)
      (looks [(31, 0x40)] .init true [.diag .rx 0x7E]) = true ∧
    answers (after 6 (assemble 0 (ctrlPauseLines ++ [idleLine])) base) (looks [] .init true []) = true := by decide +kernel

/-- R21: reset wins over a command, and no command changes nothing. -/
theorem test_step_edges :
    answers (step { held .f0 with mod := true, pending := [.edge ⟨true, true, 1, 0, 0, .zero⟩] })
      (looks [] .init false []) = true ∧
    answers (step { held .f0 with mod := true, pending := [.edge ⟨false, false, 1, 0, 0, .zero⟩] })
      (looks [(3, 0x10)] .f0 true []) = true := by decide +kernel

/-- R27, R135: the ports after the first ADVANCE of V-I14 and of the example of R122. -/
theorem test_ports :
    answers (exec (.decodeByte 0xFA 0) (held .init)) (fun t => t.ports.hostClear && t.ports.diagValid &&
      t.ports.diagKind == 2 && t.ports.diagByte == 0xFA && !t.ports.ledSet && !t.ports.modified) = true ∧
    answers (exec (.thumbstick 1023 0) base) (fun t => t.ports.mouseSet && t.ports.mouseFlush && t.ports.mouseDx == 15 &&
      t.ports.mouseDy == 16 && !t.ports.diagValid) = true := by decide +kernel

/-- A word placed by `withFetchWord` is what the next step runs (log 13). -/
theorem test_withFetchWord :
    answers (step (State.reset.withFetchWord 16 0x175)) (looks [(30, 0x20)] .init true [.diag .rx 0x75]) = true ∧
    answers (step (State.reset.withFetchWord 8 5)) (fun t => t.out.resCount == 0) = true ∧
    answers (step (State.reset.withFetchWord 8 0xFE)) (looks [] .init false []) = true := by decide +kernel

/-! ### Witnesses: the premises of the statements can be met -/

theorem witness_EncodedInstructionsDecodeBack :
    wellFormed (.initOnLow 0x01) = true ∧ wellFormed (.initOnLow 0x7F) = true ∧ wellFormed (.e0OnHigh 0xFF) = true ∧
    wellFormed (.reserved 7) = true ∧ wellFormed (.thumbstick 1023 1023) = true := by decide

theorem witness_DecodedInstructionsAreWellFormed :
    decode (.wire 0xFFF 0) = .ok (.initOnHigh 0xFF) ∧ decode (.micro (.pseudoBreak 0xFE)) = .ok .pseudoBreak := by decide

theorem witness_InitOnCodeMakesExactlyThatPosition :
    (0x01 ≤ (0x01 : Byte).toNat ∧ (0x01 : Byte).toNat ≤ 0x7F) ∧ (0x01 ≤ (0x7F : Byte).toNat ∧ (0x7F : Byte).toNat ≤ 0x7F) := by
  decide

theorem witness_UnexpectedBytesRecover :
    unexpected .init 0x80 = true ∧ unexpected .init 0xFF = true ∧ unexpected .e0 0x80 = true ∧ unexpected .e0 0xFF = true ∧
    (unexpected .f0 0x80 = true ∧ (0x80 : Byte) ≠ 0xF0) ∧ unexpected .f0 0xF0 = true ∧ unexpected .e0_F0 0x80 = true ∧
    unexpected .e0_F0 0xFF = true := by decide

/-- The sizes R54 gives for the four sets. -/
theorem test_unexpected_counts :
    (List.finRange 256).countP (fun n => unexpected .init (BitVec.ofFin n)) = 121 ∧
    (List.finRange 256).countP (fun n => unexpected .e0 (BitVec.ofFin n)) = 127 ∧
    (List.finRange 256).countP (fun n => unexpected .f0 (BitVec.ofFin n)) = 126 ∧
    (List.finRange 256).countP (fun n => unexpected .e0_F0 (BitVec.ofFin n)) = 128 := by decide +kernel

theorem witness_ExtendedCodeMakesUpperHalfPosition :
    ((0x00 : Byte).toNat < 0x80 ∧ (0x00 : Byte) ≠ 0x12 ∧ (0x00 : Byte) ≠ 0x59 ∧ (0x00 : Byte) ≠ 0x7E) ∧
    ((0x7F : Byte).toNat < 0x80 ∧ (0x7F : Byte) ≠ 0x12 ∧ (0x7F : Byte) ≠ 0x59 ∧ (0x7F : Byte) ≠ 0x7E) := by decide

theorem witness_BreakPrefixOnCodeReleasesExactlyThatPosition :
    (0x00 : Byte).toNat < 0x80 ∧ (0x12 : Byte).toNat < 0x80 ∧ (0x7F : Byte).toNat < 0x80 := by decide

theorem witness_ExtendedBreakReleasesUpperHalfPosition :
    ((0x00 : Byte).toNat < 0x80 ∧ (0x00 : Byte) ≠ 0x12 ∧ (0x00 : Byte) ≠ 0x59) ∧
    ((0x7F : Byte).toNat < 0x80 ∧ (0x7F : Byte) ≠ 0x12 ∧ (0x7F : Byte) ≠ 0x59) := by decide

theorem witness_PauseChainsSwallowEveryOtherByte :
    (0x00 : Byte) ≠ 0x14 ∧ (0x00 : Byte) ≠ 0x77 ∧ (0x00 : Byte) ≠ 0xE1 ∧ (0xFF : Byte) ≠ 0xF0 ∧ (0xFF : Byte) ≠ 0xE0 ∧
    (0xFF : Byte) ≠ 0x7E := by decide

theorem witness_MakeAndBreakLaws :
    readBit base 0x1C = false ∧ answers (exec (.makeKey 0x1C) base) (fun t => answers (exec (.breakKey 0x1C) t) fun _ => true) ∧
    answers (exec (.breakKey 0x1C) base) (fun t => answers (exec (.makeKey 0x1C) t) fun _ => true) := by decide +kernel

/-- The four clauses, the last three at elapsed 5 and 6 for `DEBOUNCE` = 5. -/
theorem witness_DebouncePassObservesWaitsOrCommits :
    (~~~(0b10 : BitVec 2) ≠ base.dbRaw) ∧
    (~~~(0b11 : BitVec 2) = base.dbRaw ∧ base.dbBusy = false) ∧
    (~~~(0b11 : BitVec 2) = base.dbRaw ∧ ((15 : Tick) - 10).toNat ≤ base.cfg.debounce.val) ∧
    (~~~(0b11 : BitVec 2) = base.dbRaw ∧ { base with dbBusy := true, dbT0 := 10 }.dbBusy = true ∧
      base.cfg.debounce.val < ((16 : Tick) - 10).toNat ∧ base.dbRaw = base.dbStable) ∧
    (~~~(0b11 : BitVec 2) = base.dbRaw ∧ base.cfg.debounce.val < ((16 : Tick) - 10).toNat ∧
      base.dbRaw ≠ { base with dbStable := 0b01 }.dbStable) := by decide

theorem witness_ElapsedIsTheTrueTickCount :
    ((65533 : Nat) ≤ 65539 ∧ (65539 : Nat) < 65533 + 65536) ∧ ((7 : Nat) ≤ 7 ∧ (7 : Nat) < 7 + 65536) ∧
    ((0 : Nat) ≤ 65535 ∧ (65535 : Nat) < 0 + 65536) := by decide

theorem witness_RevertedSampleNeverCommits : ~~~(0b11 : BitVec 2) = { base with dbRaw := 0b01, dbBusy := true }.dbStable := by
  decide

theorem witness_PersistingSampleCommitsExactlyOnce :
    answers (exec (.debounce 0b10 16) { base with dbRaw := 0b01, dbBusy := true, dbT0 := 10 })
      (fun t => t.dbStable != base.dbStable) = true := by decide +kernel

theorem witness_MapScalesTheMagnitudeOutsideTheDeadzone :
    (448 < (449 : Sample).toNat ∧ (449 : Sample).toNat < 576) ∧ (448 < (575 : Sample).toNat ∧ (575 : Sample).toNat < 576) ∧
    ((0 : Sample).toNat ≤ 448 ∧ (448 : Sample).toNat ≤ 448) ∧ (576 ≤ (576 : Sample).toNat ∧ 576 ≤ (1023 : Sample).toNat) := by
  decide

theorem witness_MapIsBoundedMonotonicAndOdd :
    ((0 : Sample).toNat ≤ (1023 : Sample).toNat) ∧ ((1 : Sample).toNat + (1023 : Sample).toNat = 1024) ∧
    ((512 : Sample).toNat + (512 : Sample).toNat = 1024) := by decide

theorem witness_PseudoBreakReleasesPause : readBit base 0xFE = false := by decide +kernel

theorem witness_PauseIsSetExactlyByTheEndOfASequence :
    answers (exec (.advance (advInOf (.byte 0x77) 0 512 512 0 0)) (held .e1_14_77_E1_F0_14_F0))
      (fun t => readBit t pauseAddr) = true ∧
    answers (exec (.advance (advInOf (.byte 0x7E) 0 512 512 0 0)) (held .e0_7E_E0_F0))
      (fun t => readBit t pauseAddr) = true := by decide +kernel

theorem witness_PauseIsReleasedInTheNextCycle :
    readBit { base with x := rows [(31, 0x40)] } pauseAddr = true ∧ { base with x := rows [(31, 0x40)] }.ds = .init := by
  decide +kernel

theorem witness_PauseSequencesEndWithPauseSet :
    (base.ds = .init ∧ (pauseBytes.map fun b => advInOf (.byte b) 0 512 512 0 0).map AdvIn.rxByte = pauseBytes ∧
      (ctrlPauseBytes.map fun b => advInOf (.byte b) 0 512 512 0 0).map AdvIn.rxByte = ctrlPauseBytes) ∧
    (∀ inp ∈ pauseBytes.map fun b => advInOf (.byte b) 0 512 512 0 0, inp.rxValid = true ∧ inp.rxError = false) ∧
    (∀ inp ∈ ctrlPauseBytes.map fun b => advInOf (.byte b) 0 512 512 0 0, inp.rxValid = true ∧ inp.rxError = false) ∧
    { base with pending := (pauseBytes.map fun b => advInOf (.byte b) 0 512 512 0 0).map advanceEdge }.pending =
      (pauseBytes.map fun b => advInOf (.byte b) 0 512 512 0 0).map advanceEdge ++ [] := by decide

theorem witness_ButtonCommitSurvivesARecoveryInTheSameCycle :
    let s := { held .init with dbRaw := 0b01, dbBusy := true, dbT0 := 10 }
    let inp := advInOf (.byte 0x80) 0b01 512 512 16 0
    inp.rxValid = true ∧ inp.rxError = false ∧ unexpected s.ds inp.rxByte = true ∧ s.dbBusy = true ∧
    s.dbRaw = ~~~inp.btnN ∧ s.dbRaw ≠ s.dbStable ∧ s.cfg.debounce.val < elapsed inp.tick s.dbT0 := by decide

theorem witness_NopAndReservedCommandsChangeNothing :
    5 < (6 : BitVec 3).toNat ∧ 5 < (7 : BitVec 3).toNat ∧ ¬5 < (5 : BitVec 3).toNat := by decide

theorem witness_OnlyATransitionWritesTheDecoderState :
    performsTransition (.advance (advInOf (.errored 0xF0) 0 512 512 0 0)) = false ∧
    answers (exec (.advance (advInOf (.errored 0xF0) 0 512 512 0 0)) (held .f0)) (fun t => t.ds == .f0) = true ∧
    performsTransition (.receive false false 0xF0 0) = false ∧ performsTransition .clear = false := by decide +kernel

theorem witness_ComponentRegistersHaveOneWriter :
    answers (exec .clear { held .init with dbRaw := 0b01, tsX := 3 }) (fun t => t.dbRaw == 0b01 && t.tsX == 3) = true ∧
    (∀ inp, Instr.clear ≠ .advance inp) ∧ (∀ n k, Instr.clear ≠ .debounce n k) ∧ (∀ vx vy, Instr.clear ≠ .thumbstick vx vy) :=
  ⟨by decide +kernel, nofun, nofun, nofun⟩

theorem witness_QueriesWriteNoRegister : isQuery .keyCount = true ∧ isQuery (.mapAxis 0) = true := by decide

/-- A transition, a CLEAR, a recovery, and no change. -/
theorem witness_FlagRecordsEveryTransitionOutsideAdvance :
    answers (exec (.initOnLow 0x1D) (held .init)) (fun t => t.x != (held .init).x && t.mod) = true ∧
    answers (exec .clear (held .init)) (fun t => t.x != (held .init).x && !t.mod) = true ∧
    answers (exec (.initOnHigh 0xFF) (held .init)) (fun t => t.x != (held .init).x && !t.mod) = true ∧
    answers (exec (.initOnLow 0x1C) (held .init)) (fun t => t.x == (held .init).x && !t.mod) = true := by decide +kernel

theorem witness_UnflaggedAdvanceChangedNothingUnlessItRecovered :
    answers (exec (.advance (advInOf .none 0 512 512 0 0)) (held .init)) (fun t => !t.mod) = true ∧
    answers (exec (.advance (advInOf (.byte 0xFF) 0 512 512 0 0)) (held .init)) (fun t => !t.mod) = true := by decide +kernel

theorem witness_IgnoredInputsHaveNoEffect :
    (advInOf .none 0 512 512 0 0).rxValid = false ∧
    ¬((held .init).ds = .init ∧
      ((advInOf (.byte 0xAB) 0 512 512 0 0).rxByte = 0xAA ∨ (advInOf (.byte 0xAB) 0 512 512 0 0).rxByte = 0xFC)) := by decide

/-- Both ends of the event list occur: nothing, and one motion with its flush, after the same log of the byte. -/
theorem witness_ThumbstickDoesNotInterfere :
    answers (exec (.advance (advInOf (.byte 0x1C) 0 512 512 0 0)) base) (fun t => t.out.events == [.diag .rx 0x1C] ++ []) = true ∧
    answers (exec (.advance (advInOf (.byte 0x1C) 0 1023 512 0 0)) base)
      (fun t => t.out.events == [.diag .rx 0x1C] ++ [.mouseMotion 15 0 0 0, .mouseFlush]) = true := by decide +kernel

theorem witness_ConfigurationsAreExactlyTheLegalOnes :
    Params.ofValues? 0 5 0x92 0xD9 = some ⟨0, 0, false⟩ ∧ Params.ofValues? 65534 79 0xD9 0x92 = some ⟨65534, 74, true⟩ ∧
    Params.ofValues? 65535 79 0xD9 0x92 = none ∧ Params.ofValues? 5 80 0x92 0xD9 = none ∧
    Params.ofValues? 5 4 0x92 0xD9 = none ∧ Params.ofValues? 5 10 0x92 0x92 = none ∧
    Params.ofValues? 5 10 0x92 0xFE = none := by decide +kernel

theorem witness_StepRunsTheDecodedInstruction :
    { base with pending := [.edge ⟨false, true, 3, 3, 4, .zero⟩] }.pending = .edge ⟨false, true, 3, 3, 4, .zero⟩ :: [] ∧
    decode (.cmd 3 3 4 .zero) = .ok (.isOn 3 4) ∧
    { base with pending := [.wire 0xF0 0] }.pending = .wire 0xF0 0 :: [] ∧
    decode (.wire (wireBits base.ds 0xF0) 0) = .ok .initOnF0 ∧
    { base with pending := [.micro (.makeKey 0x1C)] }.pending = .micro (.makeKey 0x1C) :: [] ∧
    decode (.micro (.makeKey 0x1C)) = .ok (.makeKey 0x1C) := by decide

theorem witness_StepWithoutACommandIdlesOrResets :
    base.pending = [] ∧
    { base with pending := [.edge ⟨false, false, 1, 0, 0, .zero⟩] }.pending = .edge ⟨false, false, 1, 0, 0, .zero⟩ :: [] ∧
    { base with pending := [.edge ⟨true, true, 1, 0, 0, .zero⟩] }.pending = .edge ⟨true, true, 1, 0, 0, .zero⟩ :: [] := by
  decide

theorem witness_PortStepsAlwaysComplete :
    { held .f0 with pending := [advanceEdge .zero, commandEdge 7 0 0 .zero] }.portOnly = true ∧ base.portOnly = true := by
  decide

/-- A state with Pause set, a debounce running and a command pending. -/
theorem witness_EveryStepKeepsTheInvariant :
    Inv { base with x := rows [(31, 0x40)], mod := true, dbRaw := 0b01, dbBusy := true, tsX := 126, pending := [advanceEdge .zero] } ∧
    answers (step { base with x := rows [(31, 0x40)], mod := true, dbRaw := 0b01, dbBusy := true, tsX := 126, pending := [advanceEdge .zero] })
      (fun _ => true) = true :=
  ⟨⟨by decide +kernel, by decide +kernel, by decide +kernel, by decide +kernel, by decide +kernel, by decide +kernel⟩, by decide +kernel⟩

end Sys2Proof.Tests
end

/-! ### The parameters and one step of the hardware (spec/00_scope.md) -/

section

namespace Sys2Proof.Machine

/-! #### Configurations -/

/-- The two addresses no transition makes or breaks (R34). -/
theorem decoderTouches_eq_false_iff (a : MatrixAddr) : decoderTouches a = false ↔ a = 0x92 ∨ a = 0xD9 := by
  simp [decoderTouches, imp_iff_not_or]

/-- `BTN_ADDR` is the pair of R36 or its swap. -/
theorem btnAddr_pair (p : Params) :
    (btnAddr0 p = 0x92 ∧ btnAddr1 p = 0xD9) ∨ (btnAddr0 p = 0xD9 ∧ btnAddr1 p = 0x92) := by
  cases h : p.buttonsSwapped <;> simp [btnAddr0, btnAddr1, h]

/-- The test of `Params.ofValues?` on the two addresses passes for the pair of R36 and its swap only. -/
theorem buttonTest_iff (a0 a1 : MatrixAddr) :
    (a0 != a1 && a0 != 0xFE && a1 != 0xFE && !decoderTouches a0 && !decoderTouches a1) = true ↔
      (a0 = 0x92 ∧ a1 = 0xD9) ∨ (a0 = 0xD9 ∧ a1 = 0x92) := by
  simp only [Bool.and_eq_true, bne_iff_ne, Bool.not_eq_true', decoderTouches_eq_false_iff]
  constructor
  · rintro ⟨⟨⟨⟨hne, -⟩, -⟩, rfl | rfl⟩, rfl | rfl⟩ <;> simp_all
  · rintro (⟨rfl, rfl⟩ | ⟨rfl, rfl⟩) <;> decide

/-- `Params.ofValues?` in one condition: inside the ranges of R8 and R36 it answers these values. -/
theorem ofValues?_eq (debounce maxSpeed : Nat) (a0 a1 : MatrixAddr) :
    Params.ofValues? debounce maxSpeed a0 a1 =
      if h : (debounce < 65535 ∧ 5 ≤ maxSpeed ∧ maxSpeed - 5 < 75) ∧
          ((a0 = 0x92 ∧ a1 = 0xD9) ∨ (a0 = 0xD9 ∧ a1 = 0x92)) then
        some ⟨⟨debounce, h.1.1⟩, ⟨maxSpeed - 5, h.1.2.2⟩, a0 == 0xD9⟩
      else none := by
  unfold Params.ofValues?
  simp only [buttonTest_iff]
  by_cases hrange : debounce < 65535 ∧ 5 ≤ maxSpeed ∧ maxSpeed - 5 < 75
  · by_cases hbtn : (a0 = 0x92 ∧ a1 = 0xD9) ∨ (a0 = 0xD9 ∧ a1 = 0x92)
    · rw [dif_pos hrange, if_pos hbtn, dif_pos ⟨hrange, hbtn⟩]
    · rw [dif_pos hrange, if_neg hbtn, dif_neg (mt And.right hbtn)]
  · rw [dif_neg hrange, dif_neg (mt And.left hrange)]

/-- Plain values are accepted exactly inside the ranges of R8 and R36. -/
theorem exists_ofValues?_iff (debounce maxSpeed : Nat) (a0 a1 : MatrixAddr) :
    (∃ p, Params.ofValues? debounce maxSpeed a0 a1 = some p) ↔
      debounce ≤ 65534 ∧ 5 ≤ maxSpeed ∧ maxSpeed ≤ 79 ∧ ((a0 = 0x92 ∧ a1 = 0xD9) ∨ (a0 = 0xD9 ∧ a1 = 0x92)) := by
  simp only [ofValues?_eq, Option.dite_none_right_eq_some]
  constructor
  · rintro ⟨-, ⟨⟨hd, hmin, hmax⟩, hbtn⟩, -⟩
    exact ⟨by omega, hmin, by omega, hbtn⟩
  · rintro ⟨hd, hmin, hmax, hbtn⟩
    exact ⟨_, ⟨⟨by omega, hmin, by omega⟩, hbtn⟩, rfl⟩

/-- An accepted configuration holds the values it was made from. -/
theorem values_of_ofValues?_eq_some {debounce maxSpeed : Nat} {a0 a1 : MatrixAddr} {p : Params}
    (h : Params.ofValues? debounce maxSpeed a0 a1 = some p) :
    p.debounce.val = debounce ∧ p.maxSpeed = maxSpeed ∧ btnAddr0 p = a0 ∧ btnAddr1 p = a1 := by
  rw [ofValues?_eq, Option.dite_none_right_eq_some] at h
  obtain ⟨⟨⟨-, hmin, -⟩, hbtn⟩, ⟨⟩⟩ := h
  refine ⟨rfl, Nat.add_sub_cancel' hmin, ?_⟩
  rcases hbtn with ⟨rfl, rfl⟩ | ⟨rfl, rfl⟩ <;> exact ⟨rfl, rfl⟩

/-- Settles O53: the first clause by the two possible pairs, the second by the condition under which `Params.ofValues?`
answers. -/
theorem configurationsAreExactlyTheLegalOnes : Obligations.ConfigurationsAreExactlyTheLegalOnes := by
  refine ⟨fun p => ?_, fun debounce maxSpeed a0 a1 =>
    ⟨exists_ofValues?_iff debounce maxSpeed a0 a1, fun _ => values_of_ofValues?_eq_some⟩⟩
  rcases btnAddr_pair p with ⟨h0, h1⟩ | ⟨h0, h1⟩ <;> rw [h0, h1] <;> decide

/-! #### Steps -/

/-- A step on a word that decodes is `exec` of its instruction (R9, R21). -/
theorem step_of_fetch_decode {s : State} {w : Word} {i : Instr} (hf : fetch s = .word w) (hd : decode w = .ok i) :
    step s = exec i (beginCycle s) := by
  simp only [step, hf, hd]

theorem fetch_command {s : State} {p : PortIn} {rest : List Request} (h : s.pending = .edge p :: rest)
    (hr : p.rst = false) (hv : p.cmdValid = true) : fetch s = .word (.cmd p.cmd p.cmdRow p.cmdCol p.adv) := by
  simp [fetch, h, hr, hv]

theorem fetch_wire {s : State} {b led : Byte} {rest : List Request} (h : s.pending = .wire b led :: rest) :
    fetch s = .word (.wire (wireBits s.ds b) led) := by
  simp [fetch, h]

theorem fetch_micro {s : State} {m : MicroWord} {rest : List Request} (h : s.pending = .micro m :: rest) :
    fetch s = .word (.micro m) := by
  simp [fetch, h]

theorem beginCycle_edge {s : State} {p : PortIn} {rest : List Request} (h : s.pending = .edge p :: rest) :
    beginCycle s = { s with pending := rest, out := Outputs.idle } := by
  simp [beginCycle, h, fetchEvents, Outputs.idle]

/-- The log of the byte is part of the cycle's beginning (R67). -/
theorem beginCycle_wire {s : State} {b led : Byte} {rest : List Request} (h : s.pending = .wire b led :: rest) :
    beginCycle s = State.emitting { s with pending := rest, out := Outputs.idle } [.diag .rx b] := by
  simp [beginCycle, h, fetchEvents, State.emitting, Outputs.idle]

theorem beginCycle_micro {s : State} {m : MicroWord} {rest : List Request} (h : s.pending = .micro m :: rest) :
    beginCycle s = { s with pending := rest, out := Outputs.idle } := by
  simp [beginCycle, h, fetchEvents, Outputs.idle]

/-- Settles O54: each kind of request is fetched as its word and begins its cycle as stated. -/
theorem stepRunsTheDecodedInstruction : Obligations.StepRunsTheDecodedInstruction := by
  refine fun s rest i => ⟨fun p hp hr hv hd => ?_, fun b led hp hd => ?_, fun m hp hd => ?_⟩
  · rw [step_of_fetch_decode (fetch_command hp hr hv) hd, beginCycle_edge hp]
  · rw [step_of_fetch_decode (fetch_wire hp) hd, beginCycle_wire hp]
  · rw [step_of_fetch_decode (fetch_micro hp) hd, beginCycle_micro hp]

/-- ADVANCE completes; it writes neither the parameters nor the stimulus to come (R8, R124). -/
theorem execAdvance_completes (inp : AdvIn) (s : State) :
    ∃ t, execAdvance inp s = .next t ∧ t.cfg = s.cfg ∧ t.pending = s.pending := by
  obtain ⟨u, hreceive, hadvance⟩ := execAdvance_phases inp s
  have hframe := execReceive_frame hreceive
  refine ⟨afterReceive inp u, hadvance, ?_, ?_⟩
  · simpa using congrArg State.cfg hframe
  · simpa using congrArg State.pending hframe

/-- Every command completes, the reserved codes included, and keeps the parameters and the stimulus (R54, R124, R130). -/
theorem exec_decodeCmd_completes (code : BitVec 3) (row : RowIdx) (col : ColIdx) (inp : AdvIn) (s : State) :
    ∃ t, exec (decodeCmd code row col inp) s = .next t ∧ t.cfg = s.cfg ∧ t.pending = s.pending := by
  unfold decodeCmd
  split_ifs
  case pos => exact ⟨_, rfl, rfl, rfl⟩                  -- NOP
  case pos => exact execAdvance_completes inp s         -- ADVANCE
  case pos => exact ⟨_, rfl, rfl, rfl⟩                  -- CLEAR
  case pos => exact ⟨_, rfl, rfl, rfl⟩                  -- IS_ON
  case pos => exact ⟨_, rfl, rfl, rfl⟩                  -- GET_ROW
  case pos => exact ⟨_, rfl, rfl, rfl⟩                  -- KEY_COUNT
  case neg => exact ⟨_, rfl, rfl, rfl⟩                  -- RESERVED

/-- A clock edge completes, whatever its ports carry: it uses up its request and keeps the parameters (R21, R130, R147). -/
theorem step_edge_completes {s : State} {p : PortIn} {rest : List Request} (h : s.pending = .edge p :: rest) :
    ∃ t, step s = .next t ∧ t.cfg = s.cfg ∧ t.pending = s.pending.tail := by
  cases hr : p.rst
  · cases hv : p.cmdValid
    · exact ⟨_, step_noCommand h hr hv, rfl, rfl⟩
    · rw [step_command h hr hv]
      exact exec_decodeCmd_completes _ _ _ _ (beginCycle s)
  · exact ⟨_, step_reset h hr, rfl, rfl⟩

theorem step_completes_of_portOnly {s : State} (h : s.portOnly = true) :
    ∃ t, step s = .next t ∧ t.cfg = s.cfg ∧ t.pending = s.pending.tail := by
  match hp : s.pending with
  | [] => exact ⟨_, step_empty hp, rfl, by simp [hp]⟩
  | .edge p :: rest => simpa only [hp] using step_edge_completes hp
  | .wire .. :: _ | .micro .. :: _ | .unformatted .. :: _ => simp [State.portOnly, hp, Request.isEdge] at h

theorem portOnly_of_pending_eq_tail {s t : State} (hs : s.portOnly = true) (h : t.pending = s.pending.tail) :
    t.portOnly = true := by
  rw [State.portOnly, List.all_eq_true] at hs ⊢
  exact fun r hr => hs r (List.mem_of_mem_tail (h ▸ hr))

/-- Settles O56: a port-only state completes its edge and has its tail of edges left. -/
theorem portStepsAlwaysComplete : Obligations.PortStepsAlwaysComplete := by
  intro s hs
  obtain ⟨t, hstep, hcfg, hpending⟩ := step_completes_of_portOnly hs
  exact ⟨t, hstep, portOnly_of_pending_eq_tail hs hpending, hcfg⟩

end Sys2Proof.Machine
end

/-! ### The state: who writes which register, and the invariant of a run (spec/10_state.md) -/

section

namespace Sys2Proof.Machine

/-! #### Everything one instruction can do -/

/-- Everything an instruction can do to the state, grouped by the operation it is: one transition, from `s` with other
outputs; outputs alone; or one of the operations of the matrix, the debouncer, the thumbstick mapper and the driver. -/
inductive ExecEffect (s : State) : Instr → State → Prop
  | transition {i : Instr} {t : State} (o : Outputs) (hi : performsTransition i = true)
      (hrow : RowEffect { s with out := o } t) : ExecEffect s i t
  | drives {i : Instr} (o : Outputs) (hi : performsTransition i = false) : ExecEffect s i { s with out := o }
  | clears : ExecEffect s .clear (clearMatrix s)
  | makes (a : MatrixAddr) : ExecEffect s (.makeKey a) (make a s)
  | breaks (a : MatrixAddr) : ExecEffect s (.breakKey a) (break_ a s)
  | pseudoBreaks : ExecEffect s .pseudoBreak (break_ pauseAddr s)
  | debounces (n : BitVec 2) (tick : Tick) :
      ExecEffect s (.debounce n tick) (settle tick (observe (rawButtons n) tick s))
  | reports (vx vy : Sample) :
      ExecEffect s (.thumbstick vx vy) (thumbstickPass (mapSample s.cfg vx) (mapSample s.cfg vy) s)
  | advances (inp : AdvIn) {u : State}
      (hreceive : execReceive inp.rxValid inp.rxError inp.rxByte inp.hostLed (break_ pauseAddr (resetMod s)) = .next u) :
      ExecEffect s (.advance inp) (afterReceive inp u)

/-- What a RECEIVE that answered `t` did: it drove `rx_take` alone, or it performed the row of a validated byte (R126). -/
theorem execReceive_inv {valid error : Bool} {b led : Byte} {s t : State}
    (h : execReceive valid error b led s = .next t) :
    ((valid && !error) = false ∧ t = taking valid s) ∨
      ((valid && !error) = true ∧ RowEffect (emit (.diag .rx b) (taking true s)) t ∧
        performRow (decodeWire s.ds b led) (emit (.diag .rx b) (taking true s)) = .next t) := by
  obtain ⟨t', h', heffect⟩ := execReceive_effect valid error b led s
  cases h'.symm.trans h
  exact heffect

/-- What an ADVANCE that answered `t` did: its receive phase answered, and the phases after it ran from there (R124). -/
theorem execAdvance_inv {inp : AdvIn} {s t : State} (h : execAdvance inp s = .next t) :
    ∃ u, execReceive inp.rxValid inp.rxError inp.rxByte inp.hostLed (break_ pauseAddr (resetMod s)) = .next u ∧
      t = afterReceive inp u := by
  obtain ⟨u, hreceive, hadvance⟩ := execAdvance_phases inp s
  cases hadvance.symm.trans h
  exact ⟨u, hreceive, rfl⟩

theorem execReceive_execEffect {valid error : Bool} {b led : Byte} {s t : State}
    (h : execReceive valid error b led s = .next t) : ExecEffect s (.receive valid error b led) t := by
  obtain ⟨hbyte, rfl⟩ | ⟨hbyte, hrow, -⟩ := execReceive_inv h
  · exact .drives _ hbyte
  · exact .transition _ hbyte hrow

theorem execDecodeByte_execEffect {b led : Byte} {s t : State}
    (h : execDecodeByte b led s = .next t) : ExecEffect s (.decodeByte b led) t := by
  obtain ⟨t', h', hrow⟩ := performRow_effect s.ds b led (emit (.diag .rx b) s)
  obtain rfl : t' = t := by simpa [execDecodeByte, h'] using h
  exact .transition _ rfl hrow

theorem execAdvance_execEffect {inp : AdvIn} {s t : State}
    (h : execAdvance inp s = .next t) : ExecEffect s (.advance inp) t := by
  obtain ⟨u, hreceive, rfl⟩ := execAdvance_inv h
  exact .advances inp hreceive

/-- Whatever instruction runs, its effect is one of `ExecEffect`. -/
theorem exec_effect {i : Instr} {s t : State} (h : exec i s = .next t) : ExecEffect s i t := by
  have moves {i d} (hi : performsTransition i = true) (h : (.next (setDs d s) : Result) = .next t) :
      ExecEffect s i t := by
    cases h; exact .transition s.out hi (.moves d)
  have makes {i a} (hi : performsTransition i = true) (h : (.next (setDs .init (make a s)) : Result) = .next t) :
      ExecEffect s i t := by
    cases h; exact .transition s.out hi (.makes a)
  have breaks {i a} (hi : performsTransition i = true) (h : (.next (setDs .init (break_ a s)) : Result) = .next t) :
      ExecEffect s i t := by
    cases h; exact .transition s.out hi (.breaks a)
  have desync {i d b} (hi : performsTransition i = true)
      (h : (.next (setDs d (raise (.desync b) s)) : Result) = .next t) : ExecEffect s i t := by
    cases h; rw [raise_desync]; exact .transition s.out hi (.recovers d .unexpected b)
  have tests {i k b led} (hi : performsTransition i = true)
      (h : (.next (setDs .init (emit (.setLeds led) (emit (.diag k b) s))) : Result) = .next t) :
      ExecEffect s i t := by
    cases h
    simp only [emit_eq_emitting, emitting_emitting]
    exact .transition s.out hi (.reports k b led)
  have drives {i o} (hi : performsTransition i = false) (h : (.next { s with out := o } : Result) = .next t) :
      ExecEffect s i t := by
    cases h; exact .drives o hi
  cases i
  case initOnE0 | initOnF0 | initOnE1 | e0On12 | e0On59 | e0On7E | e0OnF0 | e0_F0On12 | e0_F0On59 | e1On14
      | e1OnOther | e1_14On77 | e1_14OnOther | e1_14_77OnE1 | e1_14_77OnOther | e1_14_77_E1OnF0
      | e1_14_77_E1OnOther | e1_14_77_E1_F0On14 | e1_14_77_E1_F0OnOther | e1_14_77_E1_F0_14OnF0
      | e1_14_77_E1_F0_14OnOther | e1_14_77_E1_F0_14_F0OnOther | e0_7EOnE0 | e0_7EOnOther | e0_7E_E0OnF0
      | e0_7E_E0OnOther | e0_7E_E0_F0OnOther => exact moves rfl h
  case initOn83 | initOn84 | initOnLow | e0OnLow | e1_14_77_E1_F0_14_F0On77 | e0_7E_E0_F0On7E => exact makes rfl h
  case f0On83 | f0On84 | f0OnLow | e0_F0OnLow => exact breaks rfl h
  case initOnHigh | e0OnHigh | f0OnF0 | f0OnHigh | e0_F0OnHigh => exact desync rfl h
  case initOn00 =>
    cases h; rw [raise_overrun]; exact .transition s.out rfl (.recovers .init .overrun 0x00)
  case initOnAA | initOnFC => exact tests rfl h
  case nop | reserved => exact drives (o := s.out) rfl h
  case isOn | getRow | keyCount | mapAxis => exact drives rfl h
  case clear => cases h; exact .clears
  case makeKey a => cases h; exact .makes a
  case breakKey a => cases h; exact .breaks a
  case pseudoBreak =>
    cases (execPseudoBreak_eq s).symm.trans h; exact .pseudoBreaks
  case debounce n tick => cases h; exact .debounces n tick
  case thumbstick vx vy => cases h; exact .reports vx vy
  case receive => exact execReceive_execEffect h
  case decodeByte => exact execDecodeByte_execEffect h
  case advance => exact execAdvance_execEffect h

/-! #### Registers with one writer -/

/-- RECEIVE without a validated byte drives `rx_take` alone (R126). -/
theorem eq_taking_of_execReceive {valid error : Bool} {b led : Byte} {s t : State}
    (h : execReceive valid error b led s = .next t) (hbyte : (valid && !error) = false) : t = taking valid s := by
  obtain ⟨-, ht⟩ | ⟨hbyte', -⟩ := execReceive_inv h
  · exact ht
  · cases hbyte.symm.trans hbyte'

/-- Settles O46: of the effects of an instruction that is no transition, only ADVANCE's goes through the decoder, and
without a validated byte its receive phase drives `rx_take` alone. -/
theorem onlyATransitionWritesTheDecoderState : Obligations.OnlyATransitionWritesTheDecoderState := by
  intro i s t h hno
  cases exec_effect h with
  | transition _ hi _ => rw [hno] at hi; cases hi
  | drives => rfl
  | clears => rfl
  | makes a => exact make_ds a s
  | breaks a => exact break_ds a s
  | pseudoBreaks => exact break_ds _ s
  | debounces n tick => exact debounce_ds n tick s
  | reports vx vy => exact thumbstickPass_ds _ _ s
  | advances inp hreceive =>
    rw [afterReceive_ds, eq_taking_of_execReceive hreceive hno]
    exact break_ds _ _

/-- The registers and fields outside the decoder's reach: parameters, stimulus, debounce and thumbstick registers. -/
def SameComponents (s t : State) : Prop :=
  (t.cfg = s.cfg ∧ t.pending = s.pending) ∧
  (t.dbRaw = s.dbRaw ∧ t.dbStable = s.dbStable ∧ t.dbBusy = s.dbBusy ∧ t.dbT0 = s.dbT0) ∧
  (t.tsX = s.tsX ∧ t.tsY = s.tsY)

theorem RowEffect.sameComponents {s t : State} (h : RowEffect s t) : SameComponents s t := by
  rw [h.frame]
  exact ⟨⟨rfl, rfl⟩, ⟨rfl, rfl, rfl, rfl⟩, rfl, rfl⟩

theorem make_sameComponents (a : MatrixAddr) (s : State) : SameComponents s (make a s) := by
  rw [make_frame]
  exact ⟨⟨rfl, rfl⟩, ⟨rfl, rfl, rfl, rfl⟩, rfl, rfl⟩

theorem break_sameComponents (a : MatrixAddr) (s : State) : SameComponents s (break_ a s) := by
  rw [break_frame]
  exact ⟨⟨rfl, rfl⟩, ⟨rfl, rfl, rfl, rfl⟩, rfl, rfl⟩

/-- What ADVANCE finds after its first two phases is what the cycle began with. -/
theorem receivePhase_sameComponents {valid error : Bool} {b led : Byte} {s u : State}
    (h : execReceive valid error b led (break_ pauseAddr (resetMod s)) = .next u) : SameComponents s u := by
  rw [execReceive_frame h]
  exact break_sameComponents pauseAddr (resetMod s)

/-- Settles O47: each effect is a frame that names what it writes. -/
theorem componentRegistersHaveOneWriter : Obligations.ComponentRegistersHaveOneWriter := by
  intro i s t h
  have of_same (hsame : SameComponents s t) :
      (t.cfg = s.cfg ∧ t.pending = s.pending) ∧
      ((∀ inp, i ≠ .advance inp) → (∀ n k, i ≠ .debounce n k) →
        t.dbRaw = s.dbRaw ∧ t.dbStable = s.dbStable ∧ t.dbBusy = s.dbBusy ∧ t.dbT0 = s.dbT0) ∧
      ((∀ inp, i ≠ .advance inp) → (∀ vx vy, i ≠ .thumbstick vx vy) → t.tsX = s.tsX ∧ t.tsY = s.tsY) := by
    obtain ⟨hfields, hdebounce, hthumbstick⟩ := hsame
    exact ⟨hfields, fun _ _ => hdebounce, fun _ _ => hthumbstick⟩
  cases exec_effect h with
  | transition _ _ hrow => exact of_same hrow.sameComponents
  | drives => exact of_same ⟨⟨rfl, rfl⟩, ⟨rfl, rfl, rfl, rfl⟩, rfl, rfl⟩
  | clears => exact of_same ⟨⟨rfl, rfl⟩, ⟨rfl, rfl, rfl, rfl⟩, rfl, rfl⟩
  | makes a => exact of_same (make_sameComponents a s)
  | breaks a => exact of_same (break_sameComponents a s)
  | pseudoBreaks => exact of_same (break_sameComponents pauseAddr s)
  | debounces n tick =>
    exact ⟨⟨debounce_cfg n tick s, debounce_pending n tick s⟩, fun _ hne => absurd rfl (hne n tick),
      fun _ _ => ⟨debounce_tsX n tick s, debounce_tsY n tick s⟩⟩
  | reports vx vy =>
    exact ⟨⟨thumbstickPass_cfg .., thumbstickPass_pending ..⟩,
      fun _ _ => ⟨thumbstickPass_dbRaw .., thumbstickPass_dbStable .., thumbstickPass_dbBusy .., thumbstickPass_dbT0 ..⟩,
      fun _ hne => absurd rfl (hne vx vy)⟩
  | advances inp hreceive =>
    obtain ⟨⟨hcfg, hpending⟩, -⟩ := receivePhase_sameComponents hreceive
    exact ⟨⟨(afterReceive_cfg ..).trans hcfg, (afterReceive_pending ..).trans hpending⟩,
      fun hne => absurd rfl (hne inp), fun hne => absurd rfl (hne inp)⟩

/-! #### The flag and the positions (R13) -/

/-- `mod` records whether a row changed from `s` to `t`. -/
def Flagged (s t : State) : Prop := t.mod = (s.mod || decide (t.x ≠ s.x))

theorem flagged_of_same {s t : State} (hx : t.x = s.x) (hmod : t.mod = s.mod) : Flagged s t := by
  simp [Flagged, hx, hmod]

theorem flagged_of_set {s t : State} (hx : t.x ≠ s.x) (hmod : t.mod = true) : Flagged s t := by
  simp [Flagged, hx, hmod]

/-- A flag that is still clear says that it was clear and no row changed. -/
theorem Flagged.unchanged {s t : State} (h : Flagged s t) (hmod : t.mod = false) : s.mod = false ∧ t.x = s.x := by
  simpa [Flagged, hmod] using h.symm

theorem x_ne_of_readBit_ne {s t : State} {a : MatrixAddr} (h : readBit t a ≠ readBit s a) : t.x ≠ s.x :=
  fun hx => h (readBit_congr hx a)

theorem make_flagged (a : MatrixAddr) (s : State) : Flagged s (make a s) := by
  cases ha : readBit s a
  · exact flagged_of_set (x_ne_of_readBit_ne (a := a) (by simp [readBit_make, ha])) (by simp [make_mod, ha])
  · rw [make_of_on ha]
    exact flagged_of_same rfl rfl

theorem break_flagged (a : MatrixAddr) (s : State) : Flagged s (break_ a s) := by
  cases ha : readBit s a
  · rw [break_of_off ha]
    exact flagged_of_same rfl rfl
  · exact flagged_of_set (x_ne_of_readBit_ne (a := a) (by simp [readBit_break, ha])) (by simp [break_mod, ha])

/-- A commit writes two different positions, so neither call undoes the other. -/
theorem commit_flagged (s : State) : Flagged s (commit s) := by
  by_cases h0 : readBit s (btnAddr0 s.cfg) = s.dbRaw.getLsbD 0
  · by_cases h1 : readBit s (btnAddr1 s.cfg) = s.dbRaw.getLsbD 1
    · refine flagged_of_same (rows_ext fun a => ?_) (by simp [commit_mod, h0, h1])
      rw [readBit_commit]
      split_ifs with ha1 ha0
      · rw [ha1, h1]
      · rw [ha0, h0]
      · rfl
    · refine flagged_of_set (x_ne_of_readBit_ne (a := btnAddr1 s.cfg) ?_)
        (by rw [commit_mod, bne_iff_ne.mpr h1, Bool.or_true])
      rw [readBit_commit, if_pos rfl]
      exact Ne.symm h1
  · refine flagged_of_set (x_ne_of_readBit_ne (a := btnAddr0 s.cfg) ?_)
      (by rw [commit_mod, bne_iff_ne.mpr h0, Bool.or_true, Bool.true_or])
    rw [readBit_commit, if_neg (btnAddr_ne s.cfg), if_pos rfl]
    exact Ne.symm h0

theorem debounce_flagged (n : BitVec 2) (tick : Tick) (s : State) :
    Flagged s (settle tick (observe (rawButtons n) tick s)) := by
  rcases debounce_cases n tick s with ⟨-, h⟩ | ⟨-, -, h⟩ | ⟨-, -, -, h⟩ | ⟨-, -, -, h⟩ <;> rw [h]
  · exact flagged_of_same rfl rfl
  · exact flagged_of_same rfl rfl
  · exact flagged_of_same rfl rfl
  · exact commit_flagged { s with dbBusy := false }

/-- A transition flags what it changes, or it is a recovery: that keeps `mod` and emits HostClear (R132, R133). -/
theorem RowEffect.flagged_or_hostClear {s t : State} (h : RowEffect s t) :
    Flagged s t ∨ (t.mod = s.mod ∧ Event.hostClear ∈ t.out.events) := by
  cases h with
  | moves d => exact .inl (flagged_of_same rfl rfl)
  | makes a => exact .inl (make_flagged a s)
  | breaks a => exact .inl (break_flagged a s)
  | recovers d k b => exact .inr ⟨rfl, by simp [State.emitting]⟩
  | reports k b led => exact .inl (flagged_of_same rfl rfl)

/-- Outside ADVANCE every instruction flags what it changes, but CLEAR and the recoveries, which keep `mod` (D6). -/
theorem ExecEffect.flagged_or_cleared {i : Instr} {s t : State} (h : ExecEffect s i t) (hi : ∀ inp, i ≠ .advance inp) :
    Flagged s t ∨ (t.mod = s.mod ∧ (i = .clear ∨ Event.hostClear ∈ t.out.events)) := by
  cases h with
  | transition _ _ hrow => exact hrow.flagged_or_hostClear.imp_right (And.imp_right .inr)
  | drives => exact .inl (flagged_of_same rfl rfl)
  | clears => exact .inr ⟨rfl, .inl rfl⟩
  | makes a => exact .inl (make_flagged a s)
  | breaks a => exact .inl (break_flagged a s)
  | pseudoBreaks => exact .inl (break_flagged pauseAddr s)
  | debounces n tick => exact .inl (debounce_flagged n tick s)
  | reports vx vy => exact .inl (flagged_of_same (thumbstickPass_x ..) (thumbstickPass_mod ..))
  | advances inp => exact absurd rfl (hi inp)

/-- Settles O49: a flagged change says all three clauses, and so does a clear that keeps `mod`. -/
theorem flagRecordsEveryTransitionOutsideAdvance : Obligations.FlagRecordsEveryTransitionOutsideAdvance := by
  intro i s t h hi
  rcases (exec_effect h).flagged_or_cleared hi with hflag | ⟨hmod, hcleared⟩
  · unfold Flagged at hflag
    exact ⟨fun hs => by simp [hflag, hs], fun hx => .inl (by simp [hflag, hx]), fun hx => by simp [hflag, hx]⟩
  · exact ⟨hmod.trans, fun _ => .inr hcleared, fun _ => hmod⟩

/-- The receive phase flags what it changes, or a recovery emitted HostClear (R126). -/
theorem execReceive_flagged_or_hostClear {valid error : Bool} {b led : Byte} {s t : State}
    (h : execReceive valid error b led s = .next t) : Flagged s t ∨ Event.hostClear ∈ t.out.events := by
  rcases (execReceive_execEffect h).flagged_or_cleared (fun _ => nofun) with hflag | ⟨-, hclear | hevent⟩
  · exact .inl hflag
  · cases hclear
  · exact .inr hevent

/-- The phases after the receive phase only append events. -/
theorem mem_afterReceive_events {e : Event} {inp : AdvIn} {s : State} (h : e ∈ s.out.events) :
    e ∈ (afterReceive inp s).out.events := by
  simp [afterReceive, thumbstickPass_events, h]

/-- Settles O50: a clear flag at the end was clear after every phase, so no phase changed a row unless it recovered. -/
theorem unflaggedAdvanceChangedNothingUnlessItRecovered :
    Obligations.UnflaggedAdvanceChangedNothingUnlessItRecovered := by
  intro s t inp h hmod
  obtain ⟨u, hreceive, rfl⟩ := execAdvance_inv h
  rw [afterReceive_mod] at hmod
  obtain ⟨humod, hux⟩ := (debounce_flagged inp.btnN inp.tick u).unchanged hmod
  rcases execReceive_flagged_or_hostClear hreceive with hflag | hevent
  · obtain ⟨hbmod, hbx⟩ := hflag.unchanged humod
    obtain ⟨-, hsx⟩ := (break_flagged pauseAddr (resetMod s)).unchanged hbmod
    exact .inl (readBit_congr (by rw [afterReceive_x, hux, hbx, hsx, resetMod_x]))
  · exact .inr (mem_afterReceive_events hevent)

/-! #### Inputs that do not matter (R22) -/

/-- The LED word reaches RECEIVE only through the two self-test bytes in INIT (R74, R75). -/
theorem execReceive_led {b : Byte} {s : State} (hled : ¬(s.ds = .init ∧ (b = 0xAA ∨ b = 0xFC)))
    (valid error : Bool) (led led' : Byte) : execReceive valid error b led s = execReceive valid error b led' s := by
  cases valid
  · rfl
  · cases error
    · rw [execReceive_byte, execReceive_byte, execDecodeByte, execDecodeByte,
        decodeWire_led (d := (taking true s).ds) hled led led']
    · rfl

/-- ADVANCE depends on its transport inputs and its LED word through the receive phase alone (R124). -/
theorem execAdvance_congr {s : State} {inp inp' : AdvIn}
    (hreceive : execReceive inp'.rxValid inp'.rxError inp'.rxByte inp'.hostLed (break_ pauseAddr (resetMod s)) =
      execReceive inp.rxValid inp.rxError inp.rxByte inp.hostLed (break_ pauseAddr (resetMod s)))
    (hbtn : inp'.btnN = inp.btnN) (htick : inp'.tick = inp.tick) (hadcX : inp'.adcX = inp.adcX)
    (hadcY : inp'.adcY = inp.adcY) : execAdvance inp' s = execAdvance inp s := by
  simp only [execAdvance, execPseudoBreak_eq, andThen_next, hreceive, hbtn, htick, hadcX, hadcY]

/-- Settles O51: in both clauses the receive phase is the same. -/
theorem ignoredInputsHaveNoEffect : Obligations.IgnoredInputsHaveNoEffect := by
  refine ⟨fun s inp error b led hvalid => ?_, fun s inp led hled => ?_⟩
  · refine execAdvance_congr ?_ rfl rfl rfl rfl
    simp only [hvalid, execReceive_noByte]
  · refine execAdvance_congr ?_ rfl rfl rfl rfl
    exact execReceive_led (by simpa using hled) _ _ _ _

/-! #### Encodings, idle steps and reset -/

/-- Settles O1, by running the decoder on the eleven words. -/
theorem specWordsDecodeToTheirInstructions : Obligations.SpecWordsDecodeToTheirInstructions := by
  refine ⟨?_, ?_, ?_, ?_, ?_, ?_, ?_, ?_, ?_, ?_, ?_⟩ <;> decide

theorem beginCycle_empty {s : State} (h : s.pending = []) : beginCycle s = { s with out := Outputs.idle } := by
  simp [beginCycle, h, fetchEvents, Outputs.idle]

theorem resetState_edge {s : State} {p : PortIn} {rest : List Request} (h : s.pending = .edge p :: rest) :
    resetState s = { State.reset with cfg := s.cfg, pending := rest } := by
  simp [resetState, h]

/-- Settles O55: the three steps without a command, each with what it leaves. -/
theorem stepWithoutACommandIdlesOrResets : Obligations.StepWithoutACommandIdlesOrResets := by
  refine fun s => ⟨fun h => ?_, fun p rest h hr hv => ?_, fun p rest h hr => ?_⟩
  · rw [step_empty h, beginCycle_empty h]
  · rw [step_noCommand h hr hv, beginCycle_edge h]
  · rw [step_reset h hr, resetState_edge h]

theorem allReleased_reset : AllReleased State.reset := allReleased_replicate State.reset _ rfl

/-- Settles O57, by the reset values of R28 and D12. -/
theorem resetValues : Obligations.ResetValues :=
  ⟨allReleased_reset, rfl, rfl, rfl, rfl, rfl, rfl, rfl, rfl, rfl⟩

/-- The rows and registers after reset meet the invariant, whatever edges are to come (R28, R146). -/
theorem inv_resetWith (cfg : Params) {l : List Request} (hl : l.all Request.isEdge = true) :
    Inv { State.reset with cfg := cfg, pending := l } where
  portOnly := hl
  zeroOff := allReleased_reset 0x00
  settled _ := rfl
  tsXRange := by simp [State.reset]
  tsYRange := by simp [State.reset]
  pauseFlag hon := by cases (allReleased_reset pauseAddr).symm.trans hon

/-- Settles O58: reset with no edge to come. -/
theorem invariantHoldsAtReset : Obligations.InvariantHoldsAtReset := inv_resetWith Params.default (l := []) rfl

/-! #### The invariant of a run -/

/-- The addresses a decoded byte can make (R34). -/
def DecoderMakes (a : MatrixAddr) : Prop := a ≠ 0x00 ∧ a ≠ 0x92 ∧ a ≠ 0xD9

theorem decoderMakes_plainAddr {b : Byte} (hcode : isCode b = true) (hb : b ≠ 0x00) : DecoderMakes (plainAddr b) := by
  unfold DecoderMakes; revert b; decide

theorem decoderMakes_extendedAddr {b : Byte} (hcode : isCode b = true) (hb : b ≠ 0x12) (hb' : b ≠ 0x59) :
    DecoderMakes (extendedAddr b) := by
  unfold DecoderMakes; revert b; decide

theorem decoderMakes_special : DecoderMakes f7Addr ∧ DecoderMakes printScreenAddr ∧ DecoderMakes pauseAddr := by
  unfold DecoderMakes; decide

/-- A well-formed row makes one of the addresses of R34, or sets no position. -/
theorem performRow_makes_or_setsNone {i : Instr} {s t : State} (hi : wellFormed i = true)
    (h : performRow i s = .next t) :
    (∃ a, DecoderMakes a ∧ t = setDs .init (make a s)) ∨ ∀ a, readBit t a = true → readBit s a = true := by
  have makes {a} (ha : DecoderMakes a) (h : (.next (setDs .init (make a s)) : Result) = .next t) :
      ∃ a, DecoderMakes a ∧ t = setDs .init (make a s) := by
    cases h; exact ⟨a, ha, rfl⟩
  have breaks {a} (h : (.next (setDs .init (break_ a s)) : Result) = .next t) (a' : MatrixAddr)
      (ha' : readBit t a' = true) : readBit s a' = true := by
    cases h
    rw [readBit_setDs, readBit_break, Bool.and_eq_true] at ha'
    exact ha'.2
  have desync {d b} (h : (.next (setDs d (raise (.desync b) s)) : Result) = .next t) (a : MatrixAddr)
      (ha : readBit t a = true) : readBit s a = true := by
    cases h; cases ((desync_recovers d b s).1 a).symm.trans ha
  cases i
  case initOn83 => exact .inl (makes decoderMakes_special.1 h)
  case initOn84 => exact .inl (makes decoderMakes_special.2.1 h)
  case e1_14_77_E1_F0_14_F0On77 | e0_7E_E0_F0On7E => exact .inl (makes decoderMakes_special.2.2 h)
  case initOnLow b =>
    obtain ⟨hcode, hb⟩ : isCode b = true ∧ b ≠ 0x00 := by simpa [wellFormed] using hi
    exact .inl (makes (decoderMakes_plainAddr hcode hb) h)
  case e0OnLow b =>
    obtain ⟨⟨⟨hcode, hb⟩, hb'⟩, -⟩ : ((isCode b = true ∧ b ≠ 0x12) ∧ b ≠ 0x59) ∧ b ≠ 0x7E := by
      simpa [wellFormed] using hi
    exact .inl (makes (decoderMakes_extendedAddr hcode hb hb') h)
  case f0On83 | f0On84 | f0OnLow | e0_F0OnLow => exact .inr (breaks h)
  case initOnHigh | e0OnHigh | f0OnF0 | f0OnHigh | e0_F0OnHigh => exact .inr (desync h)
  case initOn00 =>
    cases h
    exact .inr fun a ha => by cases ((overrun_recovers .init s).1 a).symm.trans ha
  all_goals cases h; exact .inr fun _ ha => ha

/-- RECEIVE leaves 0x00 released: no row makes it (R34). -/
theorem execReceive_zeroOff {valid error : Bool} {b led : Byte} {s t : State}
    (h : execReceive valid error b led s = .next t) (hs : readBit s 0x00 = false) : readBit t 0x00 = false := by
  obtain ⟨-, rfl⟩ | ⟨-, -, hrow⟩ := execReceive_inv h
  · exact hs
  · rcases performRow_makes_or_setsNone (wellFormed_decodeWire ..) hrow with ⟨a, ⟨ha, -, -⟩, rfl⟩ | hnone
    · rw [readBit_setDs, readBit_make, readBit_emit, readBit_taking, hs, Bool.or_false]
      exact beq_false_of_ne ha.symm
    · refine Bool.eq_false_of_not_eq_true fun hon => ?_
      cases hs.symm.trans (hnone 0x00 hon)

/-- A transition that sets a released Pause position flags it and ends in INIT (R107, R113). -/
theorem RowEffect.pauseFlag {s t : State} (h : RowEffect s t) (hs : readBit s pauseAddr = false)
    (hon : readBit t pauseAddr = true) : t.mod = true ∧ t.ds = .init := by
  cases h with
  | moves d => cases hs.symm.trans hon
  | makes a =>
    rw [readBit_setDs, readBit_make, hs, Bool.or_false, beq_iff_eq] at hon
    exact ⟨by rw [setDs_mod, make_mod, ← hon, hs, Bool.not_false, Bool.or_true], rfl⟩
  | breaks a =>
    rw [readBit_setDs, readBit_break, hs, Bool.and_false] at hon
    cases hon
  | recovers d k b => cases (readBit_clearMatrix s pauseAddr).symm.trans hon
  | reports k b led => cases hs.symm.trans hon

theorem execReceive_pauseFlag {valid error : Bool} {b led : Byte} {s t : State}
    (h : execReceive valid error b led s = .next t) (hs : readBit s pauseAddr = false)
    (hon : readBit t pauseAddr = true) : t.mod = true ∧ t.ds = .init := by
  obtain ⟨-, rfl⟩ | ⟨-, hrow, -⟩ := execReceive_inv h
  · cases hs.symm.trans hon
  · exact hrow.pauseFlag hs hon

/-- The debounce pass writes the two button positions at most (R116). -/
theorem readBit_debounce {a : MatrixAddr} (ha : a ≠ 0x92) (ha' : a ≠ 0xD9) (n : BitVec 2) (tick : Tick) (s : State) :
    readBit (settle tick (observe (rawButtons n) tick s)) a = readBit s a := by
  have h0 : a ≠ btnAddr0 s.cfg := by rcases btnAddr_pair s.cfg with ⟨h, -⟩ | ⟨h, -⟩ <;> rwa [h]
  have h1 : a ≠ btnAddr1 s.cfg := by rcases btnAddr_pair s.cfg with ⟨-, h⟩ | ⟨-, h⟩ <;> rwa [h]
  rcases debounce_cases n tick s with ⟨-, h⟩ | ⟨-, -, h⟩ | ⟨-, -, -, h⟩ | ⟨-, -, -, h⟩ <;> rw [h]
  · rfl
  · rfl
  · rw [readBit_commit, if_neg h1, if_neg h0]
    rfl

/-- The debounce pass does not clear the flag. -/
theorem debounce_mod_of_mod {s : State} (hs : s.mod = true) (n : BitVec 2) (tick : Tick) :
    (settle tick (observe (rawButtons n) tick s)).mod = true := by
  rw [debounce_flagged n tick s, hs, Bool.true_or]

/-- A pass that leaves no debounce running leaves the pending sample stable (R116, R118). -/
theorem debounce_settled {s : State} (hs : s.dbBusy = false → s.dbRaw = s.dbStable) (n : BitVec 2) (tick : Tick) :
    let t := settle tick (observe (rawButtons n) tick s)
    t.dbBusy = false → t.dbRaw = t.dbStable := by
  intro t hidle
  rcases debounce_cases n tick s with ⟨-, h⟩ | ⟨-, -, h⟩ | ⟨-, -, hraw, h⟩ | ⟨-, -, -, h⟩ <;>
    simp only [t, h] at hidle ⊢
  · cases hidle
  · exact hs hidle
  · exact hraw
  · rw [commit_frame]

/-- ADVANCE keeps the invariant: Pause is released before the byte is decoded, the transitions and the buttons leave
0x00 alone, and the last two phases own their registers (R124). -/
theorem execAdvance_keeps_inv {inp : AdvIn} {s t : State} (hs : Inv s) (h : execAdvance inp s = .next t) : Inv t := by
  obtain ⟨u, hreceive, rfl⟩ := execAdvance_inv h
  obtain ⟨⟨hcfg, hpending⟩, ⟨hraw, hstable, hbusy, -⟩, -⟩ := receivePhase_sameComponents hreceive
  have hzero : readBit u 0x00 = false :=
    execReceive_zeroOff hreceive (by rw [readBit_break, readBit_resetMod, hs.zeroOff, Bool.and_false])
  have hpause : readBit u pauseAddr = true → u.mod = true ∧ u.ds = .init :=
    execReceive_pauseFlag hreceive (by rw [readBit_break, bne_self_eq_false, Bool.false_and])
  have hsettled : u.dbBusy = false → u.dbRaw = u.dbStable := by
    rw [hraw, hstable, hbusy]
    exact hs.settled
  exact {
    portOnly := by
      rw [State.portOnly, afterReceive_pending, hpending]
      exact hs.portOnly
    zeroOff := by rw [readBit_afterReceive, readBit_debounce (by decide) (by decide), hzero]
    settled := by simpa [afterReceive] using debounce_settled hsettled inp.btnN inp.tick
    tsXRange := by simpa [afterReceive, signed8_mapSample] using mapSample_range _ inp.adcX
    tsYRange := by simpa [afterReceive, signed8_mapSample] using mapSample_range _ inp.adcY
    pauseFlag := by
      rw [readBit_afterReceive, readBit_debounce (by decide) (by decide), afterReceive_mod, afterReceive_ds]
      exact fun hon => (hpause hon).imp_left fun hmod => debounce_mod_of_mod hmod inp.btnN inp.tick }

/-- The outputs are no part of the invariant. -/
theorem Inv.withOut {s : State} (h : Inv s) (o : Outputs) : Inv { s with out := o } :=
  ⟨h.portOnly, h.zeroOff, h.settled, h.tsXRange, h.tsYRange, h.pauseFlag⟩

theorem clearMatrix_keeps_inv {s : State} (h : Inv s) : Inv (clearMatrix s) where
  portOnly := h.portOnly
  zeroOff := readBit_clearMatrix s 0x00
  settled := h.settled
  tsXRange := h.tsXRange
  tsYRange := h.tsYRange
  pauseFlag hon := by cases (readBit_clearMatrix s pauseAddr).symm.trans hon

/-- Of the commands only ADVANCE and CLEAR write more than the outputs (R53, R54). -/
theorem exec_decodeCmd_keeps_inv {code : BitVec 3} {row : RowIdx} {col : ColIdx} {inp : AdvIn} {s t : State}
    (hs : Inv s) (h : exec (decodeCmd code row col inp) s = .next t) : Inv t := by
  unfold decodeCmd at h
  split_ifs at h
  case pos => cases h; exact hs                         -- NOP
  case pos => exact execAdvance_keeps_inv hs h          -- ADVANCE
  case pos => cases h; exact clearMatrix_keeps_inv hs   -- CLEAR
  case pos => cases h; exact hs.withOut _               -- IS_ON
  case pos => cases h; exact hs.withOut _               -- GET_ROW
  case pos => cases h; exact hs.withOut _               -- KEY_COUNT
  case neg => cases h; exact hs                         -- RESERVED

theorem beginCycle_keeps_inv {s : State} (h : Inv s) : Inv (beginCycle s) :=
  ⟨portOnly_of_pending_eq_tail h.portOnly rfl, h.zeroOff, h.settled, h.tsXRange, h.tsYRange, h.pauseFlag⟩

theorem resetState_inv {s : State} (h : s.portOnly = true) : Inv (resetState s) :=
  inv_resetWith s.cfg (portOnly_of_pending_eq_tail h (t := beginCycle s) rfl)

/-- A clock edge keeps the invariant: it resets, idles or performs one command (R21). -/
theorem step_edge_keeps_inv {s t : State} {p : PortIn} {rest : List Request} (hs : Inv s)
    (hp : s.pending = .edge p :: rest) (h : step s = .next t) : Inv t := by
  cases hr : p.rst
  · cases hv : p.cmdValid
    · cases (step_noCommand hp hr hv).symm.trans h
      exact beginCycle_keeps_inv hs
    · exact exec_decodeCmd_keeps_inv (beginCycle_keeps_inv hs) ((step_command hp hr hv).symm.trans h)
  · cases (step_reset hp hr).symm.trans h
    exact resetState_inv hs.portOnly

/-- Settles O59: what stands at the port is nothing or a clock edge, and both keep the invariant. -/
theorem everyStepKeepsTheInvariant : Obligations.EveryStepKeepsTheInvariant := by
  intro s t hs h
  match hp : s.pending with
  | [] =>
    cases (step_empty hp).symm.trans h
    exact beginCycle_keeps_inv hs
  | .edge p :: rest => exact step_edge_keeps_inv hs hp h
  | .wire .. :: _ | .micro .. :: _ | .unformatted .. :: _ =>
    have hport := hs.portOnly
    simp [State.portOnly, hp, Request.isEdge] at hport

end Sys2Proof.Machine
end

/-! ### The matrix addresses: what a decoded byte makes and breaks, and what one ADVANCE emits (spec/20_memory.md) -/

section

namespace Sys2Proof.Machine

/-! #### Reads -/

/-- Settles O48: each read answers the state it found, with other outputs at most. -/
theorem queriesWriteNoRegister : Obligations.QueriesWriteNoRegister := by
  intro i s hquery
  cases i
  case nop | isOn | getRow | keyCount | reserved | mapAxis => exact ⟨_, rfl, rfl⟩
  all_goals cases hquery

/-! #### What a selected row emits -/

/-- The events of a row's own pseudocode, without the log of the byte (R67, R130). -/
def rowEvents : Instr → List Event
  | .initOn00 => [.hostClear, .diag .overrun 0x00]
  | .initOnAA led => [.diag .selftestPass 0xAA, .setLeds led]
  | .initOnFC led => [.diag .selftestFail 0xFC, .setLeds led]
  | .initOnHigh b | .e0OnHigh b | .f0OnHigh b | .e0_F0OnHigh b => [.hostClear, .diag .unexpected b]
  | .f0OnF0 => [.hostClear, .diag .unexpected 0xF0]
  | _ => []

theorem performRow_events {i : Instr} {s t : State} (h : performRow i s = .next t) :
    t.out.events = s.out.events ++ rowEvents i := by
  cases i <;> cases h <;> simp [rowEvents, raise]

/-- A row that emits HostClear is a recovery: it releases every position (R132, R133). -/
theorem performRow_allReleased {i : Instr} {s t : State} (hclear : Event.hostClear ∈ rowEvents i)
    (h : performRow i s = .next t) : AllReleased t := by
  cases i
  case initOn00 => cases h; exact (overrun_recovers .init s).1
  case initOnHigh b | e0OnHigh b | f0OnHigh b | e0_F0OnHigh b => cases h; exact (desync_recovers .init b s).1
  case f0OnF0 => cases h; exact (desync_recovers .f0 0xF0 s).1
  all_goals simp [rowEvents] at hclear

/-- The cause of R54 and R130 for a pair (`ds`, `b`) is the row that the pair selects. -/
theorem byteEvents_eq_rowEvents (d : DecState) (b led : Byte) :
    byteEvents d b led = .diag .rx b :: rowEvents (decodeWire d b led) := by
  cases d
  case init | e0 | f0 | e0_F0 =>
    simp only [decodeWire]
    split_ifs <;> simp_all [byteEvents, unexpected, rowEvents, isCode]
  all_goals -- in a Pause chain no byte is unexpected
    simp only [decodeWire]
    split_ifs <;> simp [byteEvents, unexpected, rowEvents]

theorem execDecodeByte_events {b led : Byte} {s t : State} (h : execDecodeByte b led s = .next t) :
    t.out.events = s.out.events ++ byteEvents s.ds b led := by
  rw [performRow_events h, byteEvents_eq_rowEvents]
  simp

theorem execReceive_events {valid error : Bool} {b led : Byte} {s t : State}
    (h : execReceive valid error b led s = .next t) :
    t.out.events = s.out.events ++ (if valid = true ∧ error = false then byteEvents s.ds b led else []) := by
  cases valid
  · cases h; simp
  · cases error
    · simpa [taking] using execDecodeByte_events (s := taking true s) h
    · cases h; simp [raise]

/-- After the receive phase an ADVANCE emits nothing, or one motion with its flush (R122, R124; D16, D22). -/
theorem afterReceive_events (inp : AdvIn) (s : State) :
    ∃ motion, (afterReceive inp s).out.events = s.out.events ++ motion ∧
      (motion = [] ∨ ∃ dx dy, motion = [.mouseMotion dx dy 0 0, .mouseFlush]) := by
  simp only [afterReceive, thumbstickPass_events, debounce_out]
  refine ⟨_, rfl, ?_⟩
  split_ifs
  · exact .inr ⟨_, _, rfl⟩
  · exact .inl rfl

/-- Settles O43: the pseudo-break emits nothing, the receive phase the events of its byte, the phases after it the
motion. -/
theorem advanceEmitsItsByteThenItsMotion : Obligations.AdvanceEmitsItsByteThenItsMotion := by
  intro s inp
  obtain ⟨u, hreceive, hadvance⟩ := execAdvance_phases inp s
  obtain ⟨motion, hevents, hmotion⟩ := afterReceive_events inp u
  refine ⟨_, motion, hadvance, ?_, hmotion⟩
  rw [hevents, execReceive_events hreceive, break_out, break_ds, resetMod_out, resetMod_ds]

/-! #### A recovery and a button commit in one cycle -/

/-- Receiving an unexpected validated byte releases every position and emits HostClear (R126, R132). -/
theorem execReceive_unexpected {b led : Byte} {s t : State} (hb : unexpected s.ds b = true)
    (h : execReceive true false b led s = .next t) : AllReleased t ∧ Event.hostClear ∈ t.out.events := by
  have hclear : Event.hostClear ∈ byteEvents s.ds b led := by simp [byteEvents, hb]
  constructor
  · exact performRow_allReleased (by simpa [byteEvents_eq_rowEvents] using hclear) h
  · simp [execReceive_events h, hclear]

/-- A pending sample that is due and differs from the stable one is committed (R116). -/
theorem debounce_commits {n : BitVec 2} {tick : Tick} {s : State} (hraw : rawButtons n = s.dbRaw)
    (hdue : expired tick s = true) (hdiff : s.dbRaw ≠ s.dbStable) :
    settle tick (observe (rawButtons n) tick s) = commit { s with dbBusy := false } := by
  simp [observe, settle, hraw, hdue, hdiff]

/-- After a commit on a released matrix the buttons pressed in the sample are set, and nothing else is (R116). -/
theorem readBit_commit_of_allReleased {s : State} (hs : AllReleased s) (a : MatrixAddr) :
    readBit (commit s) a =
      ((a == btnAddr0 s.cfg && s.dbRaw.getLsbD 0) || (a == btnAddr1 s.cfg && s.dbRaw.getLsbD 1)) := by
  rw [readBit_commit, hs a]
  split_ifs with h1 h0
  · simp [h1, (btnAddr_ne s.cfg).symm]
  · simp [h0, btnAddr_ne s.cfg]
  · simp [h1, h0]

/-- Settles O42: the receive phase releases every position and leaves the debounce registers alone, so the pass after
it commits on a released matrix. -/
theorem buttonCommitSurvivesARecoveryInTheSameCycle : Obligations.ButtonCommitSurvivesARecoveryInTheSameCycle := by
  intro s inp hvalid herror hb hbusy hpins hdiff hdue
  obtain ⟨u, hreceive, hadvance⟩ := execAdvance_phases inp s
  obtain ⟨⟨hcfg, -⟩, ⟨hraw, hstable, hbusy', ht0⟩, -⟩ := receivePhase_sameComponents hreceive
  rw [hvalid, herror] at hreceive
  obtain ⟨hreleased, hclear⟩ := execReceive_unexpected (by rwa [break_ds, resetMod_ds]) hreceive
  have hcommit : settle inp.tick (observe (rawButtons inp.btnN) inp.tick u) = commit { u with dbBusy := false } :=
    debounce_commits (by rw [hraw, hpins, rawButtons]) (by simp [expired, hbusy', hbusy, ht0, hcfg, hdue])
      (by rwa [hraw, hstable])
  refine ⟨_, hadvance, mem_afterReceive_events hclear, fun a => ?_⟩
  rw [readBit_afterReceive, hcommit, readBit_commit_of_allReleased (s := { u with dbBusy := false }) hreleased, hcfg, hraw]

/-! #### The addresses decoding can make and break (R34) -/

/-- The row of a WIRE word that decodes to `i` is `i`. -/
theorem decodeWire_of_decode {d : DecState} {b led : Byte} {i : Instr}
    (h : decode (.wire (wireBits d b) led) = .ok i) : decodeWire d b led = i := by
  rw [decode_wireBits] at h
  cases h
  rfl

theorem decoderTouches_iff (a : MatrixAddr) : decoderTouches a = true ↔ a ≠ 0x92 ∧ a ≠ 0xD9 := by
  simp [decoderTouches]

theorem decoderTouches_plainAddr {b : Byte} (hcode : isCode b = true) : decoderTouches (plainAddr b) = true := by
  revert b; decide

theorem decoderTouches_extendedAddr {b : Byte} (hcode : isCode b = true) (hb : b ≠ 0x12) (hb' : b ≠ 0x59) :
    decoderTouches (extendedAddr b) = true :=
  (decoderTouches_iff _).mpr (decoderMakes_extendedAddr hcode hb hb').2

/-- Every upper address is that of an extended code (R31). -/
theorem extendedAddr_code {a : MatrixAddr} (hcode : isCode a = false) : extendedAddr (a &&& 0x7F) = a := by
  revert a; decide

/-- Each of the addresses of R34 is made by a row: that of a code, of an extended code, or of a Pause sequence. -/
theorem exists_row_makes {a : MatrixAddr} (ha : DecoderMakes a) :
    ∃ d b, ∀ s, performRow (decodeWire d b 0) s = .next (setDs .init (make a s)) := by
  obtain ⟨hzero, hshift⟩ := ha
  by_cases hpause : a = pauseAddr
  · exact ⟨.e0_7E_E0_F0, 0x7E, fun s => by rw [hpause]; rfl⟩
  · cases hcode : isCode a
    · have hwf : wellFormed (.e0OnLow (a &&& 0x7F)) = true := by revert a; decide
      refine ⟨.e0, a &&& 0x7F, fun s => ?_⟩
      rw [decodeWire_of_decode (Laws.RoundTrip.e0OnLow _ hwf), performRow, execE0OnLow, extendedAddr_code hcode]
    · have hwf : wellFormed (.initOnLow a) = true := by rwa [wellFormed, hcode, Bool.true_and, bne_iff_ne]
      refine ⟨.init, a, fun s => ?_⟩
      rw [decodeWire_of_decode (Laws.RoundTrip.initOnLow _ hwf), performRow, execInitOnLow, plainAddr]

/-- Each address but the two of R36 is broken by a row: that of a code or of an extended code. -/
theorem exists_row_breaks {a : MatrixAddr} (ha : decoderTouches a = true) :
    ∃ d b, ∀ s, performRow (decodeWire d b 0) s = .next (setDs .init (break_ a s)) := by
  cases hcode : isCode a
  · have hwf : wellFormed (.e0_F0OnLow (a &&& 0x7F)) = true := by revert a; decide
    refine ⟨.e0_F0, a &&& 0x7F, fun s => ?_⟩
    rw [decodeWire_of_decode (Laws.RoundTrip.e0_F0OnLow _ hwf), performRow, execE0_F0OnLow, extendedAddr_code hcode]
  · refine ⟨.f0, a, fun s => ?_⟩
    rw [decodeWire_of_decode (Laws.RoundTrip.f0OnLow a hcode), performRow, execF0OnLow, plainAddr]

/-- A well-formed row that is no recovery breaks one of the addresses of R34, or releases no position. -/
theorem performRow_breaks_or_releasesNone {i : Instr} {s t : State} (hi : wellFormed i = true)
    (hquiet : rowEvents i = []) (h : performRow i s = .next t) :
    (∃ a, decoderTouches a = true ∧ t = setDs .init (break_ a s)) ∨ ∀ a, readBit s a = true → readBit t a = true := by
  have makes {a} (h : (.next (setDs .init (make a s)) : Result) = .next t) (a' : MatrixAddr)
      (ha' : readBit s a' = true) : readBit t a' = true := by
    cases h; rw [readBit_setDs, readBit_make, ha', Bool.or_true]
  cases i
  case f0On83 => cases h; exact .inl ⟨f7Addr, by decide, rfl⟩
  case f0On84 => cases h; exact .inl ⟨printScreenAddr, by decide, rfl⟩
  case f0OnLow => cases h; exact .inl ⟨_, decoderTouches_plainAddr hi, rfl⟩
  case e0_F0OnLow b =>
    obtain ⟨⟨hcode, hb⟩, hb'⟩ : (isCode b = true ∧ b ≠ 0x12) ∧ b ≠ 0x59 := by simpa [wellFormed] using hi
    cases h; exact .inl ⟨_, decoderTouches_extendedAddr hcode hb hb', rfl⟩
  case initOn83 | initOn84 | initOnLow | e0OnLow | e1_14_77_E1_F0_14_F0On77 | e0_7E_E0_F0On7E => exact .inr (makes h)
  case initOn00 | initOnAA | initOnFC | initOnHigh | e0OnHigh | f0OnF0 | f0OnHigh | e0_F0OnHigh => cases hquiet
  all_goals cases h; exact .inr fun _ ha => ha

theorem decodeByte_makes_iff (a : MatrixAddr) :
    (∃ s b led t, exec (.decodeByte b led) s = .next t ∧ readBit s a = false ∧ readBit t a = true) ↔ DecoderMakes a := by
  constructor
  · rintro ⟨s, b, led, t, h, hoff, hon⟩
    rcases performRow_makes_or_setsNone (wellFormed_decodeWire s.ds b led) h with ⟨a', ha', rfl⟩ | hnone
    · rw [readBit_setDs, readBit_make, readBit_emit, hoff, Bool.or_false, beq_iff_eq] at hon
      exact hon ▸ ha'
    · cases hoff.symm.trans (hnone a hon)
  · intro ha
    obtain ⟨d, b, hrow⟩ := exists_row_makes ha
    exact ⟨setDs d State.reset, b, 0, _, hrow _, allReleased_reset a, by simp [readBit_make]⟩

theorem decodeByte_breaks_iff (a : MatrixAddr) :
    (∃ s b led t, exec (.decodeByte b led) s = .next t ∧ t.out.events = s.out.events ++ [.diag .rx b] ∧
      readBit s a = true ∧ readBit t a = false) ↔ decoderTouches a = true := by
  constructor
  · rintro ⟨s, b, led, t, h, hevents, hon, hoff⟩
    have hquiet : rowEvents (decodeWire s.ds b led) = [] := by
      simpa [byteEvents_eq_rowEvents, hevents] using execDecodeByte_events h
    rcases performRow_breaks_or_releasesNone (wellFormed_decodeWire s.ds b led) hquiet h with ⟨a', ha', rfl⟩ | hnone
    · rw [readBit_setDs, readBit_break, readBit_emit, hon, Bool.and_true, bne_eq_false_iff_eq] at hoff
      exact hoff ▸ ha'
    · cases hoff.symm.trans (hnone a hon)
  · intro ha
    obtain ⟨d, b, hrow⟩ := exists_row_breaks ha
    exact ⟨setDs d (make a State.reset), b, 0, _, hrow _, by simp, by simp [readBit_make], by simp [readBit_break]⟩

/-- Settles O20: by the rows that make and those that break, once per direction. -/
theorem decoderReachesAllButTheReservedAddresses : Obligations.DecoderReachesAllButTheReservedAddresses :=
  ⟨decodeByte_makes_iff, fun a => (decodeByte_breaks_iff a).trans (decoderTouches_iff a)⟩

end Sys2Proof.Machine
end

/-! ### The encoding and the rows it selects: round trips, the Desync recovery and completion (spec/30_encoding.md) -/

section

namespace Sys2Proof.Machine

/-! #### Decode and encode -/

/-- Settles O2, by the round trip of each constructor. -/
theorem encodedInstructionsDecodeBack : Obligations.EncodedInstructionsDecodeBack
  | .initOnE0 => Laws.RoundTrip.initOnE0
  | .initOnF0 => Laws.RoundTrip.initOnF0
  | .initOnE1 => Laws.RoundTrip.initOnE1
  | .initOn83 => Laws.RoundTrip.initOn83
  | .initOn84 => Laws.RoundTrip.initOn84
  | .initOn00 => Laws.RoundTrip.initOn00
  | .initOnAA led => Laws.RoundTrip.initOnAA led
  | .initOnFC led => Laws.RoundTrip.initOnFC led
  | .initOnLow b => Laws.RoundTrip.initOnLow b
  | .initOnHigh b => Laws.RoundTrip.initOnHigh b
  | .e0On12 => Laws.RoundTrip.e0On12
  | .e0On59 => Laws.RoundTrip.e0On59
  | .e0On7E => Laws.RoundTrip.e0On7E
  | .e0OnF0 => Laws.RoundTrip.e0OnF0
  | .e0OnLow b => Laws.RoundTrip.e0OnLow b
  | .e0OnHigh b => Laws.RoundTrip.e0OnHigh b
  | .f0On83 => Laws.RoundTrip.f0On83
  | .f0On84 => Laws.RoundTrip.f0On84
  | .f0OnF0 => Laws.RoundTrip.f0OnF0
  | .f0OnLow b => Laws.RoundTrip.f0OnLow b
  | .f0OnHigh b => Laws.RoundTrip.f0OnHigh b
  | .e0_F0On12 => Laws.RoundTrip.e0_F0On12
  | .e0_F0On59 => Laws.RoundTrip.e0_F0On59
  | .e0_F0OnLow b => Laws.RoundTrip.e0_F0OnLow b
  | .e0_F0OnHigh b => Laws.RoundTrip.e0_F0OnHigh b
  | .e1On14 => Laws.RoundTrip.e1On14
  | .e1OnOther b => Laws.RoundTrip.e1OnOther b
  | .e1_14On77 => Laws.RoundTrip.e1_14On77
  | .e1_14OnOther b => Laws.RoundTrip.e1_14OnOther b
  | .e1_14_77OnE1 => Laws.RoundTrip.e1_14_77OnE1
  | .e1_14_77OnOther b => Laws.RoundTrip.e1_14_77OnOther b
  | .e1_14_77_E1OnF0 => Laws.RoundTrip.e1_14_77_E1OnF0
  | .e1_14_77_E1OnOther b => Laws.RoundTrip.e1_14_77_E1OnOther b
  | .e1_14_77_E1_F0On14 => Laws.RoundTrip.e1_14_77_E1_F0On14
  | .e1_14_77_E1_F0OnOther b => Laws.RoundTrip.e1_14_77_E1_F0OnOther b
  | .e1_14_77_E1_F0_14OnF0 => Laws.RoundTrip.e1_14_77_E1_F0_14OnF0
  | .e1_14_77_E1_F0_14OnOther b => Laws.RoundTrip.e1_14_77_E1_F0_14OnOther b
  | .e1_14_77_E1_F0_14_F0On77 => Laws.RoundTrip.e1_14_77_E1_F0_14_F0On77
  | .e1_14_77_E1_F0_14_F0OnOther b => Laws.RoundTrip.e1_14_77_E1_F0_14_F0OnOther b
  | .e0_7EOnE0 => Laws.RoundTrip.e0_7EOnE0
  | .e0_7EOnOther b => Laws.RoundTrip.e0_7EOnOther b
  | .e0_7E_E0OnF0 => Laws.RoundTrip.e0_7E_E0OnF0
  | .e0_7E_E0OnOther b => Laws.RoundTrip.e0_7E_E0OnOther b
  | .e0_7E_E0_F0On7E => Laws.RoundTrip.e0_7E_E0_F0On7E
  | .e0_7E_E0_F0OnOther b => Laws.RoundTrip.e0_7E_E0_F0OnOther b
  | .nop => Laws.RoundTrip.nop
  | .advance inp => Laws.RoundTrip.advance inp
  | .clear => Laws.RoundTrip.clear
  | .isOn row col => Laws.RoundTrip.isOn row col
  | .getRow row => Laws.RoundTrip.getRow row
  | .keyCount => Laws.RoundTrip.keyCount
  | .reserved code => Laws.RoundTrip.reserved code
  | .makeKey a => Laws.RoundTrip.makeKey a
  | .breakKey a => Laws.RoundTrip.breakKey a
  | .pseudoBreak => Laws.RoundTrip.pseudoBreak
  | .receive valid error b led => Laws.RoundTrip.receive valid error b led
  | .decodeByte b led => Laws.RoundTrip.decodeByte b led
  | .debounce btnN tick => Laws.RoundTrip.debounce btnN tick
  | .mapAxis v => Laws.RoundTrip.mapAxis v
  | .thumbstick vx vy => Laws.RoundTrip.thumbstick vx vy

/-- RESERVED is an instruction with the codes 6 and 7 only (R53). -/
theorem wellFormed_reserved_iff (code : BitVec 3) : wellFormed (.reserved code) = true ↔ 5 < code.toNat := by
  revert code; decide

/-- The codes no command has are those above 5, and they are RESERVED (R53, R54; D2). -/
theorem decodeCmd_eq_reserved_iff (code : BitVec 3) (row : RowIdx) (col : ColIdx) (inp : AdvIn) :
    decodeCmd code row col inp = .reserved code ↔ 5 < code.toNat := by
  unfold decodeCmd
  split_ifs with h0 h1 h2 h3 h4 h5
  case neg => exact iff_of_true rfl (by bv_omega)
  all_goals subst code; exact iff_of_false nofun (by decide)

theorem wellFormed_decodeCmd (code : BitVec 3) (row : RowIdx) (col : ColIdx) (inp : AdvIn) :
    wellFormed (decodeCmd code row col inp) = true := by
  by_cases hcode : 5 < code.toNat
  · rw [(decodeCmd_eq_reserved_iff code row col inp).mpr hcode]
    exact (wellFormed_reserved_iff code).mpr hcode
  · unfold decodeCmd
    split_ifs
    case neg => bv_omega
    all_goals rfl

theorem wellFormed_of_decodeMicro {m : MicroWord} {i : Instr} (h : decodeMicro m = .ok i) : wellFormed i = true := by
  cases m
  case pseudoBreak w =>
    rw [decodeMicro] at h
    split_ifs at h
    cases h; rfl
  all_goals cases h; rfl

/-- Settles O3, by the kind of word: each format's own decoder answers well-formed instructions only. -/
theorem decodedInstructionsAreWellFormed : Obligations.DecodedInstructionsAreWellFormed := by
  intro w i h
  cases w with
  | wire w led => cases h; exact wellFormed_decodeWire _ _ _
  | cmd code row col inp => cases h; exact wellFormed_decodeCmd code row col inp
  | micro m => exact wellFormed_of_decodeMicro h
  | unformatted nbits w => cases h

/-- The word of the row that (`ds`, `b`) selects is `ds ++ b` again (R51). -/
theorem encode_decodeWire (d : DecState) (b led : Byte) : ∃ l, encode (decodeWire d b led) = .wire (wireBits d b) l := by
  cases d <;> simp only [decodeWire] <;> split_ifs
  all_goals subst_vars; exact ⟨_, rfl⟩ -- the word of an exact row is a literal, that of a range row carries `b`

/-- Settles O4: the row is the one `decodeWire` selects. -/
theorem everyStateAndByteSelectOneRow : Obligations.EveryStateAndByteSelectOneRow := by
  intro d b led
  obtain ⟨l, hword⟩ := encode_decodeWire d b led
  exact ⟨_, l, decode_wireBits d b led, wellFormed_decodeWire d b led, hword⟩

/-! #### The Desync recovery -/

/-- A row runs as `post` says when the pair selects it and its meaning, the function `f`, meets `post`. -/
theorem rowRuns_of_selected {d : DecState} {b : Byte} {i : Instr} {post : State → State → Prop} (f : State → State)
    (hselect : ∀ led, decodeWire d b led = i) (hexec : ∀ s, exec i s = .next (f s)) (hpost : ∀ s, post s (f s)) :
    RowRuns d b i post :=
  fun s led => ⟨by rw [decode_wireBits, hselect], f s, hexec s, hpost s⟩

/-- A row whose meaning is to raise Desync and move to `d'` recovers to `d'` (R132). -/
theorem rowRuns_desync {d d' : DecState} {b : Byte} {i : Instr} (hselect : ∀ led, decodeWire d b led = i)
    (hexec : ∀ s, exec i s = .next (setDs d' (raise (.desync b) s))) : RowRuns d b i (RecoversTo d' .unexpected b) :=
  rowRuns_of_selected _ hselect hexec (desync_recovers d' b)

/-- No code is an unexpected byte (R54). -/
theorem ne_code_of_unexpected {d : DecState} {b : Byte} (h : unexpected d b = true) (c : Byte) (hc : isCode c = true) :
    b ≠ c := by
  rintro rfl
  cases d <;> simp [unexpected, hc] at h

/-! The unexpected bytes of a state are those that reach its last range row: no exact row takes them. -/

theorem decodeWire_init_unexpected {b : Byte} (h : unexpected .init b = true) (led : Byte) :
    decodeWire .init b led = .initOnHigh b := by
  have hzero := ne_code_of_unexpected h 0x00 rfl
  simp_all [unexpected, decodeWire]

theorem decodeWire_e0_unexpected {b : Byte} (h : unexpected .e0 b = true) (led : Byte) :
    decodeWire .e0 b led = .e0OnHigh b := by
  have h12 := ne_code_of_unexpected h 0x12 rfl
  have h59 := ne_code_of_unexpected h 0x59 rfl
  have h7E := ne_code_of_unexpected h 0x7E rfl
  simp_all [unexpected, decodeWire]

theorem decodeWire_f0_unexpected {b : Byte} (h : unexpected .f0 b = true) (hb : b ≠ 0xF0) (led : Byte) :
    decodeWire .f0 b led = .f0OnHigh b := by
  simp_all [unexpected, decodeWire]

theorem decodeWire_e0_F0_unexpected {b : Byte} (h : unexpected .e0_F0 b = true) (led : Byte) :
    decodeWire .e0_F0 b led = .e0_F0OnHigh b := by
  have h12 := ne_code_of_unexpected h 0x12 rfl
  have h59 := ne_code_of_unexpected h 0x59 rfl
  simp_all [unexpected, decodeWire]

/-- Settles O11: in each state the unexpected byte selects a row that raises Desync. -/
theorem unexpectedBytesRecover : Obligations.UnexpectedBytesRecover :=
  ⟨fun _ h => rowRuns_desync (decodeWire_init_unexpected h) fun _ => rfl,
    fun _ h => rowRuns_desync (decodeWire_e0_unexpected h) fun _ => rfl,
    fun _ h hb => rowRuns_desync (decodeWire_f0_unexpected h hb) fun _ => rfl,
    rowRuns_desync (fun _ => rfl) fun _ => rfl,
    fun _ h => rowRuns_desync (decodeWire_e0_F0_unexpected h) fun _ => rfl⟩

/-! #### Completion -/

/-- DECODE completes: every selected row does (R67, R130). -/
theorem execDecodeByte_completes (b led : Byte) (s : State) : ∃ t, execDecodeByte b led s = .next t := by
  obtain ⟨t, ht, -⟩ := performRow_effect s.ds b led (emit (.diag .rx b) s)
  exact ⟨t, ht⟩

/-- RECEIVE completes, also on a byte with a transmission error (R126, R130). -/
theorem execReceive_completes (valid error : Bool) (b led : Byte) (s : State) :
    ∃ t, execReceive valid error b led s = .next t := by
  obtain ⟨t, ht, -⟩ := execReceive_effect valid error b led s
  exact ⟨t, ht⟩

/-- Settles O19: DECODE completes, with the events of its byte. -/
theorem decodeEmitsTheRecoveryOfItsCause : Obligations.DecodeEmitsTheRecoveryOfItsCause := by
  intro s b led
  obtain ⟨t, ht⟩ := execDecodeByte_completes b led s
  exact ⟨t, ht, execDecodeByte_events ht⟩

/-- Settles O45: the three instructions that select a row complete because every row does; the meaning of any other is
a next state as it is written. -/
theorem everyInstructionCompletes : Obligations.EveryInstructionCompletes := by
  intro i s
  cases i
  case decodeByte b led => exact execDecodeByte_completes b led s
  case receive valid error b led => exact execReceive_completes valid error b led s
  case advance inp =>
    obtain ⟨t, ht, -⟩ := execAdvance_completes inp s
    exact ⟨t, ht⟩
  all_goals exact ⟨_, rfl⟩

/-- Settles O44: the meanings of NOP and RESERVED answer their state, and RESERVED is selected by the codes above 5. -/
theorem nopAndReservedCommandsChangeNothing : Obligations.NopAndReservedCommandsChangeNothing := by
  intro s code row col inp
  refine ⟨rfl, ?_, rfl⟩
  rw [decode, Except.ok.injEq, decodeCmd_eq_reserved_iff]

end Sys2Proof.Machine
end

/-! ### The commands and micro-operations of the Key Matrix (spec/40_matrix_ops.md) -/

section

namespace Sys2Proof.Machine

/-! #### One row and its bits -/

/-- The bit at (row, column) is the row's bit of weight 2^col (R30, R37; D5, log 22). -/
theorem readBit_addrOf (s : State) (row : RowIdx) (col : ColIdx) :
    readBit s (addrOf row col) = (readRow s row).getLsbD col.toNat := by
  rw [readBit_def, rowOf_addrOf, colOf_addrOf]

/-- Settles O21: the address of (row, column) reads that bit of that row (D5, log 22). -/
theorem isOnAnswersTheAddressedBit : Obligations.IsOnAnswersTheAddressedBit :=
  fun s row col => ⟨_, rfl, readBit_addrOf s row col, rfl⟩

/-- Settles O22: IS_ON reads the bit of the row that GET_ROW answers. -/
theorem getRowAgreesWithIsOn : Obligations.GetRowAgreesWithIsOn :=
  fun s row => ⟨_, rfl, rfl, rfl, fun col => ⟨_, rfl, readBit_addrOf s row col⟩⟩

/-! #### The count of set positions -/

/-- The population count of a row counts its set columns (R66). -/
theorem popcount_eq_countP (v : Byte) : popcount v = (List.finRange 8).countP fun c => v.getLsbD c.val := by
  rw [show List.finRange 8 = [0, 1, 2, 3, 4, 5, 6, 7] from rfl]
  simp only [popcount, List.countP_cons, List.countP_nil, Bool.toNat, Bool.cond_eq_ite]
  ac_rfl

theorem popcount_le (v : Byte) : popcount v ≤ 8 := by
  rw [popcount_eq_countP]
  exact List.countP_le_length

/-- The stored rows in order are those read at the 32 row indices. -/
theorem toList_x (s : State) : s.x.toList = (List.finRange 32).map fun r => readRow s (BitVec.ofFin r) := by
  apply List.ext_getElem <;> simp [readRow]

/-- The count of the matrix is taken over the pairs (row, column) (R60, R66). -/
theorem matrixCount_eq_sum_countP (s : State) :
    matrixCount s =
      ((List.finRange 32).map fun r => (List.finRange 8).countP fun c =>
        readBit s (addrOf (BitVec.ofFin r) (BitVec.ofFin c))).sum := by
  simp only [matrixCount, toList_x, List.map_map, Function.comp_def, popcount_eq_countP, readBit_addrOf,
    BitVec.toNat_ofFin]

/-- 32 rows of at most 8 set positions. -/
theorem matrixCount_le (s : State) : matrixCount s ≤ 256 := by
  have hrows : ∀ n ∈ s.x.toList.map popcount, n ≤ 8 := List.forall_mem_map.mpr fun v _ => popcount_le v
  simpa [matrixCount] using List.sum_le_card_nsmul _ 8 hrows

theorem matrixCount_of_allReleased {s : State} (h : AllReleased s) : matrixCount s = 0 := by
  rw [matrixCount_eq_sum_countP]
  simp [h _]

/-- Settles O23: the count is at most 256, so 9 bits hold it without wrap (D32, log 22). -/
theorem keyCountIsTheNumberOfSetPositions : Obligations.KeyCountIsTheNumberOfSetPositions := by
  intro s
  have hfits : matrixCount s < 2 ^ 9 := (matrixCount_le s).trans_lt (by decide)
  refine ⟨_, rfl, ?_, rfl⟩
  rw [← matrixCount_eq_sum_countP]
  exact (BitVec.toNat_ofNat ..).trans (Nat.mod_eq_of_lt hfits)

/-- Settles O26: `clear()` writes the rows alone and leaves no position to count. -/
theorem clearReleasesEveryPositionAndNothingElse : Obligations.ClearReleasesEveryPositionAndNothingElse := by
  intro s
  have hreleased : AllReleased (clearMatrix s) := readBit_clearMatrix s
  exact ⟨_, rfl, hreleased, rfl, _, rfl, congrArg (BitVec.ofNat 9) (matrixCount_of_allReleased hreleased)⟩

/-! #### make and break_ -/

theorem readBit_make_self (a : MatrixAddr) (s : State) : readBit (make a s) a = true := by
  rw [readBit_make, beq_self_eq_true, Bool.true_or]

theorem readBit_break_self (a : MatrixAddr) (s : State) : readBit (break_ a s) a = false := by
  rw [readBit_break, bne_self_eq_false, Bool.false_and]

theorem make_make (a : MatrixAddr) (s : State) : make a (make a s) = make a s := make_of_on (readBit_make_self a s)

theorem break_break (a : MatrixAddr) (s : State) : break_ a (break_ a s) = break_ a s :=
  break_of_off (readBit_break_self a s)

theorem make_mod_of_off {a : MatrixAddr} {s : State} (h : readBit s a = false) : (make a s).mod = true := by
  rw [make_mod, h, Bool.not_false, Bool.or_true]

theorem break_mod_of_on {a : MatrixAddr} {s : State} (h : readBit s a = true) : (break_ a s).mod = true := by
  rw [break_mod, h, Bool.or_true]

/-- A break after the make of a released position restores the rows, whatever else changed in between (R65 (c)). -/
theorem break_x_of_make_x {a : MatrixAddr} {s t : State} (hoff : readBit s a = false) (ht : t.x = (make a s).x) :
    (break_ a t).x = s.x := by
  apply rows_ext
  intro a'
  rw [readBit_break, readBit_congr ht, readBit_make]
  by_cases h : a' = a
  · rw [h, bne_self_eq_false, Bool.false_and, hoff]
  · rw [bne_iff_ne.mpr h, beq_false_of_ne h, Bool.true_and, Bool.false_or]

/-- Settles O24, by the read rule, the flag rule and the frame of `make`. -/
theorem makeSetsOneBitAndFlagsATransition : Obligations.MakeSetsOneBitAndFlagsATransition := by
  refine fun s a => ⟨_, rfl, fun a' => ?_, ?_, make_frame a s⟩
  · rw [readBit_make]
    by_cases h : a' = a <;> simp [h]
  · rw [make_mod]
    cases readBit s a <;> simp

/-- Settles O25, by the read rule, the flag rule and the frame of `break_`. -/
theorem breakClearsOneBitAndFlagsATransition : Obligations.BreakClearsOneBitAndFlagsATransition := by
  refine fun s a => ⟨_, rfl, fun a' => ?_, ?_, break_frame a s⟩
  · rw [readBit_break]
    by_cases h : a' = a <;> simp [h]
  · rw [break_mod]
    cases readBit s a <;> simp

/-- Settles O27: the bit is on after a make and off after a break, so a repeated call changes nothing, and a break after
the make of a released position is a transition that undoes it. -/
theorem makeAndBreakLaws : Obligations.MakeAndBreakLaws := by
  intro s t u a
  refine ⟨?_, ?_, ?_, ?_, ?_⟩
  · rintro ⟨⟩
    exact congrArg Host.Outcome.next (make_make a s)
  · rintro ⟨⟩
    exact congrArg Host.Outcome.next (break_break a s)
  · rintro - ⟨⟩
    exact readBit_break_self a t
  · rintro - ⟨⟩
    exact readBit_make_self a t
  · rintro hoff ⟨⟩ ⟨⟩
    have hon : readBit (resetMod (make a s)) a = true := readBit_make_self a s
    exact ⟨make_mod_of_off hoff, break_mod_of_on hon, break_x_of_make_x hoff (resetMod_x _)⟩

end Sys2Proof.Machine
end

/-! ### The decoder's entry and its transitions from INIT (spec/41_decoder_init.md) -/

section

namespace Sys2Proof.Machine

/-- Settles O5: the selected row's arm of `exec` is the pseudocode DECODE performs, after the log of the byte. -/
theorem decodeRunsTheSelectedRow : Obligations.DecodeRunsTheSelectedRow := by
  intro s b led
  rw [exec_decodeByte, emit_eq_emitting]

/-! #### Rows by their one action -/

/-- A row without an action only moves the decoder (R68). -/
theorem rowRuns_moves {d d' : DecState} {b : Byte} {i : Instr} (hselect : ∀ led, decodeWire d b led = i)
    (hexec : ∀ s, exec i s = .next (setDs d' s)) : RowRuns d b i (MovesTo d') :=
  rowRuns_of_selected _ hselect hexec fun _ => rfl

/-- A row whose action is `make(a)` (R71, R76). -/
theorem rowRuns_makes {d : DecState} {b : Byte} {a : MatrixAddr} {i : Instr} (hselect : ∀ led, decodeWire d b led = i)
    (hexec : ∀ s, exec i s = .next (setDs .init (make a s))) : RowRuns d b i (MakesThenInit a) :=
  rowRuns_of_selected _ hselect hexec (make_makesThenInit a)

/-- A row whose action is `break_(a)` (R84). -/
theorem rowRuns_breaks {d : DecState} {b : Byte} {a : MatrixAddr} {i : Instr} (hselect : ∀ led, decodeWire d b led = i)
    (hexec : ∀ s, exec i s = .next (setDs .init (break_ a s))) : RowRuns d b i (BreaksThenInit a) :=
  rowRuns_of_selected _ hselect hexec (break_breaksThenInit a)

/-- Settles O6: none of the five rows has an action. -/
theorem prefixBytesOnlyMoveTheDecoder : Obligations.PrefixBytesOnlyMoveTheDecoder :=
  ⟨rowRuns_moves (fun _ => rfl) fun _ => rfl,
    rowRuns_moves (fun _ => rfl) fun _ => rfl,
    rowRuns_moves (fun _ => rfl) fun _ => rfl,
    rowRuns_moves (fun _ => rfl) fun _ => rfl,
    rowRuns_moves (fun _ => rfl) fun _ => rfl⟩

/-- Settles O7: the exact rows of 0x83 and 0x84 precede the range rows, and each makes or breaks its constant address. -/
theorem specialBytesMakeAndBreakF7AndPrintScreen : Obligations.SpecialBytesMakeAndBreakF7AndPrintScreen :=
  ⟨rowRuns_makes (fun _ => rfl) fun _ => rfl,
    rowRuns_makes (fun _ => rfl) fun _ => rfl,
    rowRuns_breaks (fun _ => rfl) fun _ => rfl,
    rowRuns_breaks (fun _ => rfl) fun _ => rfl⟩

/-! #### The code row of INIT -/

/-- A code is none of the bytes from 0x80 up (R48). -/
theorem ne_of_isCode {b c : Byte} (hb : isCode b = true) (hc : isCode c = false) : b ≠ c := by
  rintro rfl
  cases hb.symm.trans hc

/-- Of the exact rows of INIT only that of 0x00 takes a code, so any other code reaches INIT.LOW (R51, R76). -/
theorem decodeWire_init_code {b : Byte} (hcode : isCode b = true) (hzero : b ≠ 0x00) (led : Byte) :
    decodeWire .init b led = .initOnLow b := by
  have hne {c : Byte} (hc : isCode c = false) : b ≠ c := ne_of_isCode hcode hc
  rw [decodeWire, if_neg (hne rfl), if_neg (hne rfl), if_neg (hne rfl), if_neg (hne rfl), if_neg (hne rfl),
    if_neg hzero, if_neg (hne rfl), if_neg (hne rfl), if_pos hcode]

/-- Settles O8: a nonzero code selects INIT.LOW, whose action is `make` of the byte itself. -/
theorem initOnCodeMakesExactlyThatPosition : Obligations.InitOnCodeMakesExactlyThatPosition := by
  intro b hmin hmax
  have hcode : isCode b = true := decide_eq_true (Nat.lt_succ_of_le hmax)
  have hzero : b ≠ 0x00 := by
    rintro rfl
    exact absurd hmin (by decide)
  exact rowRuns_makes (decodeWire_init_code hcode hzero) fun _ => rfl

/-! #### The Overrun recovery and the self-test reports -/

/-- Settles O9: the row of 0x00 raises Overrun, whose recovery `overrun_recovers` states. -/
theorem initOnZeroRecoversFromOverrun : Obligations.InitOnZeroRecoversFromOverrun :=
  rowRuns_of_selected _ (fun _ => rfl) (fun _ => rfl) (overrun_recovers .init)

/-- The diagnostic and then the LED refresh are a self-test report (R74, R75). -/
theorem emit_reportsSelfTest (k : DiagKind) (b led : Byte) (s : State) :
    ReportsSelfTest k b led s (setDs .init (emit (.setLeds led) (emit (.diag k b) s))) := by
  rw [emit_eq_emitting, emit_eq_emitting, emitting_emitting]
  rfl

/-- Settles O10: each byte selects its own row with the host's LED word, and both rows are one report (D20, log 26). -/
theorem initOnSelfTestBytesReportsAndRefreshesLeds : Obligations.InitOnSelfTestBytesReportsAndRefreshesLeds :=
  fun s led => ⟨decode_wireBits .init 0xAA led, decode_wireBits .init 0xFC led,
    ⟨_, rfl, emit_reportsSelfTest .selftestPass 0xAA led s⟩, ⟨_, rfl, emit_reportsSelfTest .selftestFail 0xFC led s⟩⟩

end Sys2Proof.Machine
end

/-! ### The decoder's transitions from E0, F0 and E0_F0 (spec/42_decoder_prefix.md) -/

section

namespace Sys2Proof.Machine

/-! #### The code rows after a prefix -/

/-- Of the exact rows of E0 only those of 0x12, 0x59 and 0x7E take a code, so any other code reaches E0.LOW (R51, R82). -/
theorem decodeWire_e0_code {b : Byte} (hcode : isCode b = true) (h12 : b ≠ 0x12) (h59 : b ≠ 0x59) (h7E : b ≠ 0x7E)
    (led : Byte) : decodeWire .e0 b led = .e0OnLow b := by
  have hF0 : b ≠ 0xF0 := ne_of_isCode hcode rfl
  rw [decodeWire, if_neg h12, if_neg h59, if_neg h7E, if_neg hF0, if_pos hcode]

/-- No exact row of F0 takes a code, so every code reaches F0.LOW (R51, R87; C4). -/
theorem decodeWire_f0_code {b : Byte} (hcode : isCode b = true) (led : Byte) :
    decodeWire .f0 b led = .f0OnLow b := by
  have hne {c : Byte} (hc : isCode c = false) : b ≠ c := ne_of_isCode hcode hc
  rw [decodeWire, if_neg (hne rfl), if_neg (hne rfl), if_neg (hne rfl), if_pos hcode]

/-- E0_F0 has exact rows for 0x12 and 0x59 alone, so any other code reaches E0_F0.LOW (R51, R91). -/
theorem decodeWire_e0_F0_code {b : Byte} (hcode : isCode b = true) (h12 : b ≠ 0x12) (h59 : b ≠ 0x59) (led : Byte) :
    decodeWire .e0_F0 b led = .e0_F0OnLow b := by
  rw [decodeWire, if_neg h12, if_neg h59, if_pos hcode]

/-- A byte below 0x80 is a code (R48). -/
theorem isCode_of_lt {b : Byte} (h : b.toNat < 0x80) : isCode b = true := decide_eq_true h

/-- Settles O12: the exact rows of 0x12 and 0x59 have no action in either state. -/
theorem shiftInteractionNoiseIsSwallowed : Obligations.ShiftInteractionNoiseIsSwallowed :=
  ⟨rowRuns_moves (fun _ => rfl) fun _ => rfl,
    rowRuns_moves (fun _ => rfl) fun _ => rfl,
    rowRuns_moves (fun _ => rfl) fun _ => rfl,
    rowRuns_moves (fun _ => rfl) fun _ => rfl⟩

/-- Settles O13: any other code selects E0.LOW, whose action is `make` of the byte's extended address. -/
theorem extendedCodeMakesUpperHalfPosition : Obligations.ExtendedCodeMakesUpperHalfPosition :=
  fun _ hlt h12 h59 h7E => rowRuns_makes (decodeWire_e0_code (isCode_of_lt hlt) h12 h59 h7E) fun _ => rfl

/-- Settles O14: every code selects F0.LOW, whose action is `break_` of the byte itself. -/
theorem breakPrefixOnCodeReleasesExactlyThatPosition : Obligations.BreakPrefixOnCodeReleasesExactlyThatPosition :=
  fun _ hlt => rowRuns_breaks (decodeWire_f0_code (isCode_of_lt hlt)) fun _ => rfl

/-- Settles O15: any other code selects E0_F0.LOW, whose action is `break_` of the byte's extended address. -/
theorem extendedBreakReleasesUpperHalfPosition : Obligations.ExtendedBreakReleasesUpperHalfPosition :=
  fun _ hlt h12 h59 => rowRuns_breaks (decodeWire_e0_F0_code (isCode_of_lt hlt) h12 h59) fun _ => rfl

end Sys2Proof.Machine
end

/-! ### The decoder's transitions of the two Pause sequences (spec/43_decoder_pause.md) -/

section

namespace Sys2Proof.Machine

/-- Settles O16: each expected byte selects the exact row of its state, and none of the eight has an action. -/
theorem pauseChainsAdvanceOnTheirExpectedBytes : Obligations.PauseChainsAdvanceOnTheirExpectedBytes :=
  ⟨rowRuns_moves (fun _ => rfl) fun _ => rfl,
    rowRuns_moves (fun _ => rfl) fun _ => rfl,
    rowRuns_moves (fun _ => rfl) fun _ => rfl,
    rowRuns_moves (fun _ => rfl) fun _ => rfl,
    rowRuns_moves (fun _ => rfl) fun _ => rfl,
    rowRuns_moves (fun _ => rfl) fun _ => rfl,
    rowRuns_moves (fun _ => rfl) fun _ => rfl,
    rowRuns_moves (fun _ => rfl) fun _ => rfl⟩

/-- Settles O17: a chain state has one exact row, so every other byte selects its OTHER row, which has no action (D27). -/
theorem pauseChainsSwallowEveryOtherByte : Obligations.PauseChainsSwallowEveryOtherByte :=
  ⟨fun _ hb => rowRuns_moves (fun _ => if_neg hb) fun _ => rfl,
    fun _ hb => rowRuns_moves (fun _ => if_neg hb) fun _ => rfl,
    fun _ hb => rowRuns_moves (fun _ => if_neg hb) fun _ => rfl,
    fun _ hb => rowRuns_moves (fun _ => if_neg hb) fun _ => rfl,
    fun _ hb => rowRuns_moves (fun _ => if_neg hb) fun _ => rfl,
    fun _ hb => rowRuns_moves (fun _ => if_neg hb) fun _ => rfl,
    fun _ hb => rowRuns_moves (fun _ => if_neg hb) fun _ => rfl,
    fun _ hb => rowRuns_moves (fun _ => if_neg hb) fun _ => rfl,
    fun _ hb => rowRuns_moves (fun _ => if_neg hb) fun _ => rfl,
    fun _ hb => rowRuns_moves (fun _ => if_neg hb) fun _ => rfl⟩

/-- Settles O18: the action of either last row is `make` of the Pause address. -/
theorem lastByteOfPauseMakesThePauseAddress : Obligations.LastByteOfPauseMakesThePauseAddress :=
  ⟨rowRuns_makes (fun _ => rfl) fun _ => rfl,
    rowRuns_makes (fun _ => rfl) fun _ => rfl⟩

/-! #### Whole sequences -/

/-- The bytes `bs`, decoded from `d`, only move the decoder up to the last one, which makes the Pause address. -/
inductive EndsInPause : DecState → List Byte → Prop
  | last {d : DecState} {b : Byte} {i : Instr} (hrow : RowRuns d b i (MakesThenInit pauseAddr)) : EndsInPause d [b]
  | move {d d' : DecState} {b : Byte} {bs : List Byte} {i : Instr} (hrow : RowRuns d b i (MovesTo d'))
      (hrest : EndsInPause d' bs) : EndsInPause d (b :: bs)

/-- Format P8 (R48): the prefix row of 0xE1, the six inner rows and the last one. -/
theorem endsInPause_pauseBytes : EndsInPause .init pauseBytes := by
  obtain ⟨-, -, hE1, -⟩ := prefixBytesOnlyMoveTheDecoder
  obtain ⟨h14, h77, hE1', hF0, h14', hF0', -⟩ := pauseChainsAdvanceOnTheirExpectedBytes
  exact .move hE1 (.move h14 (.move h77 (.move hE1' (.move hF0 (.move h14' (.move hF0'
    (.last lastByteOfPauseMakesThePauseAddress.1)))))))

/-- Format P5 (R48): the prefix rows of 0xE0 and 0x7E, the two inner rows and the last one. -/
theorem endsInPause_ctrlPauseBytes : EndsInPause .init ctrlPauseBytes := by
  obtain ⟨hE0, -, -, h7E, -⟩ := prefixBytesOnlyMoveTheDecoder
  obtain ⟨-, -, -, -, -, -, hE0', hF0⟩ := pauseChainsAdvanceOnTheirExpectedBytes
  exact .move hE0 (.move h7E (.move hE0' (.move hF0 (.last lastByteOfPauseMakesThePauseAddress.2))))

/-- Receiving a validated byte does what the row of the pair does, after the take and the log (R67, R126). -/
theorem RowRuns.post_of_execReceive {d : DecState} {b led : Byte} {i : Instr} {post : State → State → Prop}
    {s u : State} (hrow : RowRuns d b i post) (hd : s.ds = d) (h : execReceive true false b led s = .next u) :
    post (emit (.diag .rx b) (taking true s)) u := by
  obtain ⟨hselect, u', hexec, hpost⟩ := hrow (emit (.diag .rx b) (taking true s)) led
  rw [decode_wireBits, Except.ok.injEq] at hselect
  rw [← hselect, exec_decodeWire, ← hd] at hexec
  rw [execReceive_byte] at h
  cases hexec.symm.trans h
  exact hpost

/-- A step on an ADVANCE edge with a validated byte: its receive phase does what the row of the pair does, and the phases
after it follow (R21, R124). -/
theorem step_of_rowRuns {s : State} {d : DecState} {inp : AdvIn} {rest : List Request} {i : Instr}
    {post : State → State → Prop} (hrow : RowRuns d inp.rxByte i post) (hd : s.ds = d)
    (hin : inp.rxValid = true ∧ inp.rxError = false) (hp : s.pending = advanceEdge inp :: rest) :
    ∃ u, post (emit (.diag .rx inp.rxByte) (taking true (break_ pauseAddr (resetMod (beginCycle s))))) u ∧
      step s = .next (afterReceive inp u) ∧ (afterReceive inp u).pending = rest := by
  obtain ⟨u, hreceive, hadvance⟩ := execAdvance_phases inp (beginCycle s)
  have hstep : step s = .next (afterReceive inp u) := (step_command hp rfl rfl).trans hadvance
  obtain ⟨⟨-, hpending⟩, -⟩ := receivePhase_sameComponents hreceive
  rw [hin.1, hin.2] at hreceive
  have hds : (break_ pauseAddr (resetMod (beginCycle s))).ds = d := (break_ds ..).trans hd
  refine ⟨u, hrow.post_of_execReceive hds hreceive, hstep, ?_⟩
  rw [afterReceive_pending, hpending, beginCycle_edge hp]

/-- In a cycle whose byte only moves the decoder, the decoder moves so. -/
theorem step_of_movesTo {s : State} {d d' : DecState} {inp : AdvIn} {rest : List Request} {i : Instr}
    (hrow : RowRuns d inp.rxByte i (MovesTo d')) (hd : s.ds = d) (hin : inp.rxValid = true ∧ inp.rxError = false)
    (hp : s.pending = advanceEdge inp :: rest) : ∃ t, step s = .next t ∧ t.ds = d' ∧ t.pending = rest := by
  obtain ⟨u, rfl, hstep, hpending⟩ := step_of_rowRuns hrow hd hin hp
  exact ⟨_, hstep, afterReceive_ds .., hpending⟩

/-- A cycle whose byte makes the Pause address ends with it set and flagged: the pseudo-break comes before the byte, and
the debounce pass after it writes the buttons alone (R124, R128). -/
theorem step_of_makesPause {s : State} {d : DecState} {inp : AdvIn} {rest : List Request} {i : Instr}
    (hrow : RowRuns d inp.rxByte i (MakesThenInit pauseAddr)) (hd : s.ds = d)
    (hin : inp.rxValid = true ∧ inp.rxError = false) (hp : s.pending = advanceEdge inp :: rest) :
    ∃ t, step s = .next t ∧ readBit t pauseAddr = true ∧ t.mod = true ∧ t.ds = .init ∧ t.pending = rest := by
  obtain ⟨u, ⟨⟨hbit, hmod⟩, hframe⟩, hstep, hpending⟩ := step_of_rowRuns hrow hd hin hp
  have hon : readBit u pauseAddr = true := by rw [hbit, beq_self_eq_true, Bool.true_or]
  have hflag : u.mod = true := by
    rw [hmod, readBit_emit, readBit_taking, readBit_break, bne_self_eq_false, Bool.false_and, Bool.not_false, Bool.or_true]
  refine ⟨_, hstep, ?_, ?_, ?_, hpending⟩
  · rw [readBit_afterReceive, readBit_debounce (by decide) (by decide), hon]
  · rw [afterReceive_mod, debounce_mod_of_mod hflag]
  · rw [afterReceive_ds, hframe]

/-- A run begins with its first step. -/
theorem run_succ_of_step {s t : State} (h : step s = .next t) (n : Nat) :
    Sys2Proof.core.run (n + 1) s = Sys2Proof.core.run n t := by
  have hcore : Sys2Proof.core.step s = .next t := h
  simp only [Host.Core.run, hcore]

/-- One validated byte per ADVANCE, a sequence that ends in Pause ends so, whatever the other inputs are. -/
theorem EndsInPause.run {d : DecState} {bs : List Byte} (hseq : EndsInPause d bs) {s : State} {ins : List AdvIn}
    {rest : List Request} (hd : s.ds = d) (hbytes : ins.map AdvIn.rxByte = bs)
    (hins : ∀ inp ∈ ins, inp.rxValid = true ∧ inp.rxError = false) (hp : s.pending = ins.map advanceEdge ++ rest) :
    ∃ t, Sys2Proof.core.run ins.length s = .next t ∧ readBit t pauseAddr = true ∧ t.mod = true ∧ t.ds = .init ∧
      t.pending = rest := by
  induction hseq generalizing s ins with
  | last hrow =>
    obtain ⟨inp, rfl, rfl⟩ := List.map_eq_singleton_iff.mp hbytes
    obtain ⟨t, hstep, hpause⟩ := step_of_makesPause hrow hd (hins inp (List.mem_singleton_self inp)) hp
    exact ⟨t, run_succ_of_step hstep 0, hpause⟩
  | move hrow _ ih =>
    obtain ⟨inp, ins, rfl, rfl, hrest⟩ := List.map_eq_cons_iff.mp hbytes
    obtain ⟨hin, hins⟩ := List.forall_mem_cons.mp hins
    obtain ⟨t, hstep, hd', hp'⟩ := step_of_movesTo hrow hd hin hp
    rw [List.length_cons, run_succ_of_step hstep]
    exact ih hd' hrest hins hp'

/-- Settles O41: both sequences end in Pause from INIT. -/
theorem pauseSequencesEndWithPauseSet : Obligations.PauseSequencesEndWithPauseSet := by
  intro s ins rest hd hbytes hins hp
  rcases hbytes with hbytes | hbytes
  · exact endsInPause_pauseBytes.run hd hbytes hins hp
  · exact endsInPause_ctrlPauseBytes.run hd hbytes hins hp

end Sys2Proof.Machine
end

/-! ### The button debouncer (spec/44_debouncer.md) -/

section

namespace Sys2Proof.Machine

/-! #### The four outcomes of one pass -/

/-- DEBOUNCE is change detection and then expiry, and it completes (R116, R124). -/
theorem exec_debounce (n : BitVec 2) (tick : Tick) (s : State) :
    exec (.debounce n tick) s = .next (settle tick (observe (rawButtons n) tick s)) := rfl

theorem expired_iff (tick : Tick) (s : State) :
    expired tick s = true ↔ s.dbBusy = true ∧ s.cfg.debounce.val < elapsed tick s.dbT0 := by
  simp [expired]

theorem expired_eq_false_iff (tick : Tick) (s : State) :
    expired tick s = false ↔ s.dbBusy = false ∨ elapsed tick s.dbT0 ≤ s.cfg.debounce.val := by
  rw [← Bool.not_eq_true, expired_iff, not_and_or, Bool.not_eq_true, not_lt]

/-- A changed sample becomes pending; its timer has just restarted, so nothing is due in the same pass (R116). -/
theorem debounce_observes {n : BitVec 2} {tick : Tick} {s : State} (hraw : rawButtons n ≠ s.dbRaw) :
    settle tick (observe (rawButtons n) tick s) =
      { s with dbRaw := rawButtons n, dbBusy := true, dbT0 := tick } := by
  simp [observe, settle, expired, elapsed_self, hraw]

/-- An unchanged sample that is not due leaves the state as it is (R116). -/
theorem debounce_waits {n : BitVec 2} {tick : Tick} {s : State} (hraw : rawButtons n = s.dbRaw)
    (hdue : expired tick s = false) : settle tick (observe (rawButtons n) tick s) = s := by
  simp [observe, settle, hraw, hdue]

/-- A pending sample that is due but already stable stops the timer alone (R116). -/
theorem debounce_runsOut {n : BitVec 2} {tick : Tick} {s : State} (hraw : rawButtons n = s.dbRaw)
    (hdue : expired tick s = true) (hsame : s.dbRaw = s.dbStable) :
    settle tick (observe (rawButtons n) tick s) = { s with dbBusy := false } := by
  simp [observe, settle, hraw, hdue, hsame]

/-- The commit writes each button position with its own bit, and no other position: the two addresses differ (R116). -/
theorem readBit_commit_button0_first (s : State) (a : MatrixAddr) :
    readBit (commit s) a =
      if a = btnAddr0 s.cfg then s.dbRaw.getLsbD 0
      else if a = btnAddr1 s.cfg then s.dbRaw.getLsbD 1
      else readBit s a := by
  rw [readBit_commit]
  by_cases h0 : a = btnAddr0 s.cfg
  · rw [if_neg (h0 ▸ btnAddr_ne s.cfg), if_pos h0, if_pos h0]
  · rw [if_neg h0, if_neg h0]

/-- Settles O28: the four outcomes of a pass, the last with what the commit reads, flags and leaves unchanged. -/
theorem debouncePassObservesWaitsOrCommits : Obligations.DebouncePassObservesWaitsOrCommits := by
  intro s n tick
  refine ⟨_, exec_debounce n tick s, debounce_observes,
    fun hraw hwait => debounce_waits hraw ((expired_eq_false_iff tick s).mpr hwait),
    fun hraw hbusy hlt => debounce_runsOut hraw ((expired_iff tick s).mpr ⟨hbusy, hlt⟩),
    fun hraw hbusy hlt hdiff => ?_⟩
  rw [debounce_commits hraw ((expired_iff tick s).mpr ⟨hbusy, hlt⟩) hdiff]
  exact ⟨readBit_commit_button0_first { s with dbBusy := false }, commit_mod { s with dbBusy := false },
    commit_frame { s with dbBusy := false }⟩

/-! #### The width of the tick -/

/-- Settles O29: subtraction modulo 2^16 is the true difference while that is below 2^16. -/
theorem elapsedIsTheTrueTickCount : Obligations.ElapsedIsTheTrueTickCount := by
  intro t0 now hle hlt
  rw [elapsed, BitVec.toNat_sub, BitVec.toNat_ofNat, BitVec.toNat_ofNat]
  omega

/-! #### When a sample commits -/

/-- A pass writes neither the rows nor `mod` nor the stable sample, or it commits a due sample that was already pending
and differs from the stable one (R116). -/
theorem debounce_keeps_or_commits (n : BitVec 2) (tick : Tick) (s : State) :
    let t := settle tick (observe (rawButtons n) tick s)
    (t.x = s.x ∧ t.mod = s.mod ∧ t.dbStable = s.dbStable) ∨
    (rawButtons n = s.dbRaw ∧ expired tick s = true ∧ s.dbRaw ≠ s.dbStable ∧ t = commit { s with dbBusy := false }) := by
  intro t
  rcases debounce_cases n tick s with ⟨-, h⟩ | ⟨-, -, h⟩ | ⟨-, -, -, h⟩ | hcommit
  · exact .inl (by simp only [t, h, and_self])
  · exact .inl (by simp only [t, h, and_self])
  · exact .inl (by simp only [t, h, and_self])
  · exact .inr hcommit

/-- Settles O30: a commit needs a pending sample that differs from the stable one, so a pass with a sample equal to the
stable one does not commit. -/
theorem revertedSampleNeverCommits : Obligations.RevertedSampleNeverCommits := by
  intro s n tick hstable
  refine ⟨_, exec_debounce n tick s, ?_⟩
  obtain ⟨hx, hkept⟩ | ⟨hraw, -, hdiff, -⟩ := debounce_keeps_or_commits n tick s
  · exact ⟨readBit_congr hx, hkept⟩
  · exact absurd (hraw.symm.trans hstable) hdiff

@[simp] theorem commit_dbRaw (s : State) : (commit s).dbRaw = s.dbRaw := by rw [commit_frame]

@[simp] theorem commit_dbStable (s : State) : (commit s).dbStable = s.dbRaw := by rw [commit_frame]

@[simp] theorem commit_dbBusy (s : State) : (commit s).dbBusy = s.dbBusy := by rw [commit_frame]

/-- Settles O31: a changed stable sample means a commit; that stops the timer and keeps the sample pending, so every
later pass with it waits. The 16-bit `elapsed` and its strict comparison are the spec's decisions D9 and D10 (log 23). -/
theorem persistingSampleCommitsExactlyOnce : Obligations.PersistingSampleCommitsExactlyOnce := by
  intro s t n tick hexec hne
  rw [exec_debounce] at hexec
  cases hexec
  obtain ⟨-, -, hkept⟩ | ⟨hraw, hdue, -, hcommit⟩ := debounce_keeps_or_commits n tick s
  · exact absurd hkept hne
  · obtain ⟨hbusy, hlt⟩ := (expired_iff tick s).mp hdue
    rw [hcommit]
    refine ⟨hbusy, hraw.symm, hlt, (commit_dbStable _).trans hraw.symm, fun tick' => ?_⟩
    have hpending : rawButtons n = (commit { s with dbBusy := false }).dbRaw := by rw [commit_dbRaw, hraw]
    have hidle : expired tick' (commit { s with dbBusy := false }) = false :=
      (expired_eq_false_iff _ _).mpr (.inl (commit_dbBusy _))
    rw [exec_debounce, debounce_waits hpending hidle]

end Sys2Proof.Machine
end

/-! ### The thumbstick mapper (spec/45_thumbstick.md) -/

section

namespace Sys2Proof.Machine

/-! #### The mapper on its three ranges -/

theorem mapSample_of_deadzone (p : Params) {v : Sample} (hlow : 448 < v.toNat) (hhigh : v.toNat < 576) :
    mapSample p v = 0 := by
  rw [mapSample_cases, if_pos (by omega)]

theorem mapSample_of_low (p : Params) {v : Sample} (h : v.toNat ≤ 448) :
    mapSample p v = -((p.maxSpeed * (512 - v.toNat) / 320 : Nat) : Int) := by
  rw [mapSample_cases, if_neg (by omega), if_pos (by omega)]

theorem mapSample_of_high (p : Params) {v : Sample} (h : 576 ≤ v.toNat) :
    mapSample p v = ((p.maxSpeed * (v.toNat - 512) / 320 : Nat) : Int) := by
  rw [mapSample_cases, if_neg (by omega), if_neg (by omega)]

/-- Settles O32: MAP answers `mapSample` at its own port, which has one equation per range. The centre and the rounding
are the spec's decisions D13 and D14 (log 24), the port is the model's (log 3). -/
theorem mapScalesTheMagnitudeOutsideTheDeadzone : Obligations.MapScalesTheMagnitudeOutsideTheDeadzone := fun s _ =>
  ⟨_, rfl, rfl, mapSample_of_deadzone s.cfg, mapSample_of_low s.cfg, mapSample_of_high s.cfg⟩

/-! #### Sign, order and symmetry of the mapper -/

/-- The scaled magnitude reaches 1 at the edge of the deadzone already, for the least `MAX_SPEED` 5 (R121, D15). -/
theorem one_le_scaled (p : Params) {m : Nat} (h : 64 ≤ m) : 1 ≤ p.maxSpeed * m / 320 :=
  have hedge : 5 * 64 ≤ p.maxSpeed * m := Nat.mul_le_mul (maxSpeed_bounds p).1 h
  Nat.div_pos hedge (by norm_num)

theorem scaled_mono (p : Params) {m m' : Nat} (h : m ≤ m') : p.maxSpeed * m / 320 ≤ p.maxSpeed * m' / 320 :=
  Nat.div_le_div_right (Nat.mul_le_mul_left _ h)

theorem mapSample_neg_of_low (p : Params) {v : Sample} (h : v.toNat ≤ 448) : mapSample p v < 0 := by
  have := one_le_scaled p (show 64 ≤ 512 - v.toNat by omega)
  rw [mapSample_of_low p h]
  omega

theorem mapSample_pos_of_high (p : Params) {v : Sample} (h : 576 ≤ v.toNat) : 0 < mapSample p v := by
  have := one_le_scaled p (show 64 ≤ v.toNat - 512 by omega)
  rw [mapSample_of_high p h]
  omega

theorem mapSample_nonpos (p : Params) {v : Sample} (h : v.toNat < 576) : mapSample p v ≤ 0 := by
  rcases Nat.lt_or_ge 448 v.toNat with hlow | hlow
  · exact (mapSample_of_deadzone p hlow h).le
  · exact (mapSample_neg_of_low p hlow).le

theorem mapSample_nonneg (p : Params) {v : Sample} (h : 448 < v.toNat) : 0 ≤ mapSample p v := by
  rcases Nat.lt_or_ge v.toNat 576 with hhigh | hhigh
  · exact (mapSample_of_deadzone p h hhigh).ge
  · exact (mapSample_pos_of_high p hhigh).le

/-- The mapper is zero in the deadzone and nowhere else (R121). -/
theorem mapSample_eq_zero_iff (p : Params) (v : Sample) : mapSample p v = 0 ↔ 449 ≤ v.toNat ∧ v.toNat ≤ 575 := by
  refine ⟨fun h => ⟨?_, ?_⟩, fun ⟨hlow, hhigh⟩ => mapSample_of_deadzone p hlow (by omega)⟩
  · by_contra hlow
    exact (mapSample_neg_of_low p (by omega)).ne h
  · by_contra hhigh
    exact (mapSample_pos_of_high p (by omega)).ne' h

/-- Two samples on one side of the deadzone compare by magnitude; of any other two the lower
maps to at most 0 and the upper to at least 0 (R121). -/
theorem mapSample_mono (p : Params) {v w : Sample} (h : v.toNat ≤ w.toNat) : mapSample p v ≤ mapSample p w := by
  rcases Nat.lt_or_ge 448 w.toNat with hw | hw
  · rcases Nat.lt_or_ge v.toNat 576 with hv | hv
    · exact (mapSample_nonpos p hv).trans (mapSample_nonneg p hw)
    · rw [mapSample_of_high p hv, mapSample_of_high p (hv.trans h), Int.ofNat_le]
      exact scaled_mono p (by omega)
  · rw [mapSample_of_low p (h.trans hw), mapSample_of_low p hw, neg_le_neg_iff, Int.ofNat_le]
    exact scaled_mono p (by omega)

theorem mapSample_mirror_of_low (p : Params) {v w : Sample} (h : v.toNat + w.toNat = 1024) (hv : v.toNat ≤ 448) :
    mapSample p w = -mapSample p v := by
  rw [mapSample_of_low p hv, mapSample_of_high p (by omega), neg_neg, show w.toNat - 512 = 512 - v.toNat by omega]

/-- Samples at the same distance from the centre map to opposite values (R121). -/
theorem mapSample_mirror (p : Params) {v w : Sample} (h : v.toNat + w.toNat = 1024) :
    mapSample p w = -mapSample p v := by
  rcases Nat.lt_or_ge 448 v.toNat with hlow | hlow
  · rcases Nat.lt_or_ge 448 w.toNat with hw | hw
    · rw [mapSample_of_deadzone p hlow (by omega), mapSample_of_deadzone p hw (by omega), neg_zero]
    · rw [mapSample_mirror_of_low p ((Nat.add_comm _ _).trans h) hw, neg_neg]
  · exact mapSample_mirror_of_low p h hlow

/-- Settles O33: range, zeros, order and symmetry of the mapper. The legal `MAX_SPEED` 5 to 79, which the bound 126 and
the zeros rest on, is the spec's decision D15; the centre and the rounding are D13 and D14 (log 24). -/
theorem mapIsBoundedMonotonicAndOdd : Obligations.MapIsBoundedMonotonicAndOdd := by
  intro p v w
  obtain ⟨hmin, hmax⟩ := mapSample_range p v
  exact ⟨hmin, hmax, mapSample_eq_zero_iff p v, mapSample_mono p, mapSample_mirror p⟩

/-! #### The pass -/

/-- The vertical axis fits its port after the inversion as well, for the range is symmetric (R121, R122). -/
theorem signed8_neg_mapSample (p : Params) (v : Sample) : (signed8 (-mapSample p v)).toInt = -mapSample p v := by
  have := mapSample_range p v
  exact signed8_toInt (by omega) (by omega)

/-- A pass is silent exactly when both values are unchanged and zero (R122). -/
theorem thumbstickPass_events_silent_first (mx my : Int) (s : State) :
    (thumbstickPass mx my s).out.events =
      s.out.events ++
        (if mx = s.tsX.toInt ∧ my = s.tsY.toInt ∧ mx = 0 ∧ my = 0 then []
          else [.mouseMotion (signed8 mx) (signed8 (-my)) 0 0, .mouseFlush]) := by
  simp only [thumbstickPass_events, ne_eq, ← not_and_or, ite_not]

/-- Settles O34: the mapped values and their inversion fit the 8-bit registers and ports, and the pass is a frame around
the registers and the events. The wheel values and the flush are the spec's decision D16, the registers D17 (log 24). -/
theorem thumbstickReportsChangesAndDeflection : Obligations.ThumbstickReportsChangesAndDeflection := fun s vx vy =>
  ⟨_, _, _, rfl, signed8_mapSample s.cfg vx, signed8_mapSample s.cfg vy, signed8_mapSample s.cfg vx,
    signed8_neg_mapSample s.cfg vy, thumbstickPass_events_silent_first _ _ s, thumbstickPass_frame _ _ s⟩

/-! #### What the samples reach -/

/-- Two passes from one state differ in the two registers and the events at most (R122, R123 (e)). -/
theorem thumbstickPass_differs_in_its_frame (mx my mx' my' : Int) (s : State) :
    let t := thumbstickPass mx my s
    let u := thumbstickPass mx' my' s
    u = { t with tsX := u.tsX, tsY := u.tsY, out := { t.out with events := u.out.events } } := by
  intro t u
  simp only [t, u]
  rw [thumbstickPass_frame mx my, thumbstickPass_frame mx' my']

/-- The phases after RECEIVE hand the samples to the thumbstick pass alone (R124). -/
theorem afterReceive_differs_in_the_frame_of_the_pass (inp : AdvIn) (vx vy : Sample) (s : State) :
    let t := afterReceive inp s
    let u := afterReceive { inp with adcX := vx, adcY := vy } s
    u = { t with tsX := u.tsX, tsY := u.tsY, out := { t.out with events := u.out.events } } :=
  congrArg (fun u : State => { u with out := { u.out with resAlive := livenessCode } })
    (thumbstickPass_differs_in_its_frame _ _ _ _ _)

/-- Settles O52: the receive phase sees no sample, so both runs share it and its events; after it the samples reach the
thumbstick pass alone (D16, log 24; D22, log 26). -/
theorem thumbstickDoesNotInterfere : Obligations.ThumbstickDoesNotInterfere := by
  intro s inp vx vy
  obtain ⟨r, hreceive, hadvance⟩ := execAdvance_phases inp s
  have hadvance' := execAdvance_of_receive (inp := { inp with adcX := vx, adcY := vy }) hreceive
  obtain ⟨tEnd, htEvents, htEnd⟩ := afterReceive_events inp r
  obtain ⟨uEnd, huEvents, huEnd⟩ := afterReceive_events { inp with adcX := vx, adcY := vy } r
  exact ⟨_, _, r.out.events, tEnd, uEnd, hadvance, hadvance', afterReceive_differs_in_the_frame_of_the_pass inp vx vy r,
    htEvents, huEvents, htEnd, huEnd⟩

end Sys2Proof.Machine
end

/-! ### The driver loop (spec/46_driver_loop.md) -/

section

namespace Sys2Proof.Machine

/-! #### The phases one by one -/

/-- Settles O35: the pseudo-break is `break_` of the Pause address. -/
theorem pseudoBreakReleasesPause : Obligations.PseudoBreakReleasesPause := fun s =>
  ⟨break_ pauseAddr s, execPseudoBreak_eq s, break_onlyReleases pauseAddr s, break_frame pauseAddr s, break_of_off⟩

/-- Settles O36: RECEIVE of a validated byte is DECODE of it once `rx_take` is driven, and DECODE completes (D4, log 29;
D21, log 26). -/
theorem receiveGatesTheDecoder : Obligations.ReceiveGatesTheDecoder := by
  intro s error b led
  obtain ⟨t, hdecode⟩ := execDecodeByte_completes b led (taking true s)
  exact ⟨execReceive_noByte error b led s, execReceive_error b led s, t,
    (execReceive_byte b led s).trans hdecode, hdecode⟩

/-- Settles O37: the receive phase completes on what the pseudo-break leaves, and the last two phases are functions of
its answer (D18, D23, log 25). -/
theorem advanceRunsItsPhasesInOrder : Obligations.AdvanceRunsItsPhasesInOrder := by
  intro s inp
  obtain ⟨t2, hreceive, hadvance⟩ := execAdvance_phases inp s
  exact ⟨_, t2, _, _, execPseudoBreak_eq (resetMod s), hreceive, exec_debounce inp.btnN inp.tick t2, rfl, hadvance⟩

/-! #### A dropped byte: no later phase reads `rx_take` -/

theorem make_taking (a : MatrixAddr) (v : Bool) (s : State) : make a (taking v s) = taking v (make a s) := by
  unfold make
  rw [readBit_taking]
  split <;> rfl

theorem break_taking (a : MatrixAddr) (v : Bool) (s : State) : break_ a (taking v s) = taking v (break_ a s) := by
  unfold break_
  rw [readBit_taking]
  split <;> rfl

theorem inject_taking (on : Bool) (a : MatrixAddr) (v : Bool) (s : State) :
    inject on a (taking v s) = taking v (inject on a s) := by
  cases on
  · exact break_taking a v s
  · exact make_taking a v s

theorem commit_taking (v : Bool) (s : State) : commit (taking v s) = taking v (commit s) := by
  unfold commit
  rw [← inject_taking, ← inject_taking]
  rfl

theorem observe_taking (raw : BitVec 2) (tick : Tick) (v : Bool) (s : State) :
    observe raw tick (taking v s) = taking v (observe raw tick s) := by
  unfold observe
  rw [apply_ite (taking v)]
  rfl

theorem settle_taking (tick : Tick) (v : Bool) (s : State) : settle tick (taking v s) = taking v (settle tick s) := by
  unfold settle
  rw [apply_ite (taking v), apply_ite (taking v), ← commit_taking]
  rfl

theorem report_taking (mx my : Int) (v : Bool) (s : State) : report mx my (taking v s) = taking v (report mx my s) := by
  unfold report
  rw [apply_ite (taking v)]
  rfl

theorem thumbstickPass_taking (mx my : Int) (v : Bool) (s : State) :
    thumbstickPass mx my (taking v s) = taking v (thumbstickPass mx my s) := by
  rw [thumbstickPass, report_taking]
  rfl

theorem afterReceive_taking (inp : AdvIn) (v : Bool) (s : State) :
    afterReceive inp (taking v s) = taking v (afterReceive inp s) := by
  unfold afterReceive
  rw [observe_taking, settle_taking]
  simp only [thumbstickPass_taking]
  rfl

/-- ADVANCE without a byte: RECEIVE drives `rx_take` to 0 and does nothing else (R126). -/
theorem execAdvance_noByte {inp : AdvIn} (hvalid : inp.rxValid = false) (s : State) :
    execAdvance inp s = .next (taking false (afterReceive inp (break_ pauseAddr (resetMod s)))) := by
  rw [← afterReceive_taking]
  exact execAdvance_of_receive (by rw [hvalid, execReceive_noByte])

/-- ADVANCE with a flagged byte: RECEIVE drives `rx_take` to 1 and does nothing else (R131, D4). -/
theorem execAdvance_error {inp : AdvIn} (hvalid : inp.rxValid = true) (herror : inp.rxError = true) (s : State) :
    execAdvance inp s = .next (taking true (afterReceive inp (break_ pauseAddr (resetMod s)))) := by
  rw [← afterReceive_taking]
  exact execAdvance_of_receive (by rw [hvalid, herror, execReceive_error])

/-- Settles O38: either ADVANCE is the later phases after the pseudo-break, but for the value of `rx_take`, and those
phases read neither `rx_valid` nor `rx_error` (D4, log 29; D21, log 26). -/
theorem transportErrorOnlyDropsTheByte : Obligations.TransportErrorOnlyDropsTheByte := fun s inp =>
  ⟨execReceive_error inp.rxByte inp.hostLed s, _, execAdvance_noByte rfl s, execAdvance_error rfl rfl s⟩

/-! #### Who sets the Pause position -/

/-- The address the row of an instruction makes, if it makes one (R71, R72, R76, R82, R107, R113). -/
def madeAddr : Instr → Option MatrixAddr
  | .initOn83 => some f7Addr
  | .initOn84 => some printScreenAddr
  | .initOnLow b => some (plainAddr b)
  | .e0OnLow b => some (extendedAddr b)
  | .e1_14_77_E1_F0_14_F0On77 | .e0_7E_E0_F0On7E => some pauseAddr
  | _ => none

/-- A row sets a released position exactly if it makes it. -/
theorem performRow_sets_iff {i : Instr} {s t : State} {a : MatrixAddr} (hoff : readBit s a = false)
    (h : performRow i s = .next t) : readBit t a = true ↔ madeAddr i = some a := by
  have makes {a'} (h : (.next (setDs .init (make a' s)) : Result) = .next t) :
      readBit t a = true ↔ some a' = some a := by
    cases h
    rw [readBit_setDs, readBit_make, hoff, Bool.or_false, beq_iff_eq, Option.some_inj, eq_comm]
  have none_of_off (hoff : readBit t a = false) : readBit t a = true ↔ none = some a := by simp [hoff]
  cases i
  case initOn83 | initOn84 | initOnLow | e0OnLow | e1_14_77_E1_F0_14_F0On77 | e0_7E_E0_F0On7E => exact makes h
  case f0On83 | f0On84 | f0OnLow | e0_F0OnLow =>
    cases h; exact none_of_off (by rw [readBit_setDs, readBit_break, hoff, Bool.and_false])
  case initOnHigh b | e0OnHigh b | f0OnHigh b | e0_F0OnHigh b =>
    cases h; exact none_of_off ((desync_recovers .init b s).1 a)
  case f0OnF0 => cases h; exact none_of_off ((desync_recovers .f0 0xF0 s).1 a)
  case initOn00 => cases h; exact none_of_off ((overrun_recovers .init s).1 a)
  all_goals cases h; exact none_of_off hoff

/-- No code is the Pause address, and the extended code that would be, 0x7E, has its own row (R80). -/
theorem madeAddr_eq_pauseAddr_iff {i : Instr} (hi : wellFormed i = true) :
    madeAddr i = some pauseAddr ↔ i = .e1_14_77_E1_F0_14_F0On77 ∨ i = .e0_7E_E0_F0On7E := by
  cases i
  case initOnLow b =>
    have hne : plainAddr b ≠ pauseAddr := by revert b; decide
    simp [madeAddr, hne]
  case e0OnLow b =>
    have hne : extendedAddr b ≠ pauseAddr := by revert b; decide
    simp [madeAddr, hne]
  case initOn83 | initOn84 => simp [madeAddr, f7Addr, printScreenAddr, pauseAddr]
  all_goals simp [madeAddr]

/-- A row is selected by one pair (`ds`, `b`) (R51). -/
theorem pair_of_decodeWire_eq {d d' : DecState} {b b' led led' : Byte}
    (h : decodeWire d b led = decodeWire d' b' led') : d = d' ∧ b = b' := by
  obtain ⟨l, hl⟩ := encode_decodeWire d b led
  obtain ⟨l', hl'⟩ := encode_decodeWire d' b' led'
  obtain ⟨hbits, -⟩ := Word.wire.inj (hl.symm.trans ((congrArg encode h).trans hl'))
  constructor
  · rw [← ofCode_code d, ← wireBits_ds d b, hbits, wireBits_ds, ofCode_code]
  · rw [← wireBits_byte d b, hbits, wireBits_byte]

/-- The pair selects the last row of Pause or of Control'd Pause. -/
theorem madeAddr_decodeWire_eq_pauseAddr_iff (d : DecState) (b led : Byte) :
    madeAddr (decodeWire d b led) = some pauseAddr ↔
      (d = .e1_14_77_E1_F0_14_F0 ∧ b = 0x77) ∨ (d = .e0_7E_E0_F0 ∧ b = 0x7E) := by
  rw [madeAddr_eq_pauseAddr_iff (wellFormed_decodeWire d b led)]
  constructor
  · rintro (h | h)
    · exact .inl (pair_of_decodeWire_eq (d' := .e1_14_77_E1_F0_14_F0) (b' := 0x77) (led' := 0) h)
    · exact .inr (pair_of_decodeWire_eq (d' := .e0_7E_E0_F0) (b' := 0x7E) (led' := 0) h)
  · rintro (⟨rfl, rfl⟩ | ⟨rfl, rfl⟩)
    · exact .inl rfl
    · exact .inr rfl

/-- RECEIVE sets a released Pause position exactly on the validated end of a sequence (R107, R113, R126). -/
theorem execReceive_setsPause_iff {valid error : Bool} {b led : Byte} {s t : State}
    (hoff : readBit s pauseAddr = false) (h : execReceive valid error b led s = .next t) :
    readBit t pauseAddr = true ↔
      valid = true ∧ error = false ∧
        ((s.ds = .e1_14_77_E1_F0_14_F0 ∧ b = 0x77) ∨ (s.ds = .e0_7E_E0_F0 ∧ b = 0x7E)) := by
  have hgate : valid = true ∧ error = false ↔ (valid && !error) = true := by simp
  rw [← and_assoc, hgate]
  obtain ⟨hno, rfl⟩ | ⟨hbyte, -, hrow⟩ := execReceive_inv h
  · simp [hoff, hno]
  · rw [performRow_sets_iff (s := emit (.diag .rx b) (taking true s)) hoff hrow, madeAddr_decodeWire_eq_pauseAddr_iff,
      and_iff_right hbyte]

/-- The phases after RECEIVE leave the Pause position alone (R36, R124). -/
theorem readBit_afterReceive_pauseAddr (inp : AdvIn) (s : State) :
    readBit (afterReceive inp s) pauseAddr = readBit s pauseAddr := by
  rw [readBit_afterReceive, readBit_debounce (by decide) (by decide)]

theorem afterReceive_mod_of_mod {s : State} (hs : s.mod = true) (inp : AdvIn) : (afterReceive inp s).mod = true := by
  rw [afterReceive_mod, debounce_mod_of_mod hs]

/-- Settles O39: the pseudo-break has released Pause when the byte is received, and the later phases leave it alone. -/
theorem pauseIsSetExactlyByTheEndOfASequence : Obligations.PauseIsSetExactlyByTheEndOfASequence := by
  intro s inp
  obtain ⟨u, hreceive, hadvance⟩ := execAdvance_phases inp s
  have hoff : readBit (break_ pauseAddr (resetMod s)) pauseAddr = false := readBit_break_self pauseAddr (resetMod s)
  refine ⟨_, hadvance, ?_, ?_⟩ <;> rw [readBit_afterReceive_pauseAddr]
  · rw [execReceive_setsPause_iff hoff hreceive, break_ds, resetMod_ds]
  · rw [afterReceive_ds]
    exact fun hon => (execReceive_pauseFlag hreceive hoff hon).imp_left (afterReceive_mod_of_mod · inp)

/-! #### The cycle after -/

/-- A transition does not clear the flag, a recovery included (R13, D6). -/
theorem RowEffect.mod_of_mod {s t : State} (h : RowEffect s t) (hs : s.mod = true) : t.mod = true := by
  rcases h.flagged_or_hostClear with hflag | ⟨hmod, -⟩
  · rw [hflag, hs, Bool.true_or]
  · rw [hmod, hs]

theorem execReceive_mod_of_mod {valid error : Bool} {b led : Byte} {s t : State}
    (h : execReceive valid error b led s = .next t) (hs : s.mod = true) : t.mod = true := by
  obtain ⟨-, rfl⟩ | ⟨-, hrow, -⟩ := execReceive_inv h
  · exact hs
  · exact hrow.mod_of_mod hs

/-- Settles O40: INIT ends no sequence, so Pause is not set again, and no phase clears the flag of the pseudo-break
(D23, log 25; D6, log 22). -/
theorem pauseIsReleasedInTheNextCycle : Obligations.PauseIsReleasedInTheNextCycle := by
  intro s inp hpause hinit
  obtain ⟨t, hadvance, hset, -⟩ := pauseIsSetExactlyByTheEndOfASequence s inp
  obtain ⟨u, hreceive, rfl⟩ := execAdvance_inv hadvance
  have hbreak : (break_ pauseAddr (resetMod s)).mod = true := break_mod_of_on (by rwa [readBit_resetMod])
  refine ⟨_, hadvance, ?_, afterReceive_mod_of_mod (execReceive_mod_of_mod hreceive hbreak) inp⟩
  rw [← Bool.not_eq_true, hset, hinit]
  rintro ⟨-, -, ⟨hd, -⟩ | ⟨hd, -⟩⟩ <;> cases hd

end Sys2Proof.Machine
end
